-- ==== Sys2Proof/Word.lean ====
section
/-!
DEFINITION. The words of the machine (spec/00_scope.md R5, R6): 32-bit registers and addresses, 16-bit halves of a compact
slot, bytes, and the 5-bit numbers that name registers. Bit 0 is the least significant bit.
-/

namespace Sys2Proof

/-- A register, address or slot: 32 bits (R5, R20, R60, R100). -/
abbrev Word := BitVec 32

/-- A half of a compact slot, or a halfword of memory: 16 bits (R111). -/
abbrev Half := BitVec 16

/-- A byte of memory (R60). -/
abbrev Byte := BitVec 8

/-- The number of a general, control or system register, 0..31 (R20, R27, R28). -/
abbrev Reg := BitVec 5

/-- The number of an exception cause or vector: "a 6-bit cause c" (R400). -/
abbrev Cause := BitVec 6

end Sys2Proof
end

