-- ==== Sys2Proof/Config.lean ====
section
/-!
DEFINITION. What an implementation fixes and no step changes (spec/00_scope.md R5, R10). Every value below is the one R5 gives.
Three parameters are OPEN in R5: the VDU's width, height and pixel format. They are constants WITHOUT A BODY, so that nothing
proved of this model depends on their values (log entry 4).
-/

namespace Sys2Proof.Config

/-- The four source pixel formats of the VDU (R5, R475). -/
inductive VduFormat where
  | rgba8888
  | rgb565
  | rgb555
  | argb8888
  deriving DecidableEq, Repr, Inhabited

/-- One less than VDU_W, which is OPEN but positive (R475, U41). -/
opaque vduWidthPred : Nat

/-- One less than VDU_H, which is OPEN but positive (R475, U41). -/
opaque vduHeightPred : Nat

/-- VDU_FORMAT: OPEN (R475, U41). -/
opaque vduFormat : VduFormat

/-- VDU_W, a positive integer (R475). -/
def vduW : Nat := vduWidthPred + 1

/-- VDU_H, a positive integer (R475). -/
def vduH : Nat := vduHeightPred + 1

/-- A backing-array region (R67): the address of its first byte, its size in bytes, and the read-only flag (R68). -/
structure Backing where
  base : Nat
  size : Nat
  readOnly : Bool
  deriving DecidableEq, Repr

/-- What a mapped segment refers to: one of "two concrete region shapes" (R64). -/
inductive Region where
  | backing (b : Backing)
  | mmio
  deriving DecidableEq, Repr

/-- Flash: FLASH_BYTES = 8 MiB in segment 0x9E, FLASH_READ_ONLY = true (R5, R61, R68). -/
def flash : Backing := { base := 0x9E000000, size := 0x800000, readOnly := true }

/-- DRAM: DRAM_BYTES = 16 MiB in segment 0xA0, read-write (R5, R61, R68). -/
def dram : Backing := { base := 0xA0000000, size := 0x1000000, readOnly := false }

/-- The first address of the I/O segment 0x08 (R61). -/
def ioBase : Nat := 0x08000000

/-- IO_REGION_BYTES = 256 KiB: the I/O image that is mirrored through segment 0x08 (R5, R70, R86). -/
def ioBytes : Nat := 0x40000

/-- The segment table: three segments are mapped, "the other 253 unmapped" (R38, R61). -/
def regionOf (segment : BitVec 8) : Option Region :=
  match segment with
  | 0x08#8 => some .mmio
  | 0x9E#8 => some (.backing flash)
  | 0xA0#8 => some (.backing dram)
  | _ => none

/-- CYCLES_PER_FRAME (R5, R500). -/
def cyclesPerFrame : Nat := 564480

/-- CYCLES_PER_SLICE (R5, R500). -/
def cyclesPerSlice : Nat := 10000

/-- CYCLES_PER_INSTRUCTION (R5, R123). -/
def cyclesPerInstruction : Nat := 4

/-- ENTRY_PC_DEFAULT (R5, R541). -/
def entryPcDefault : Word := 0x9E000000#32

/-- ENTRY_PC_MAGIC (R5, R546). -/
def entryPcMagic : Word := 0x9E000100#32

/-- ROM_VALID_OPS = the set 0x00..0x1F, every 5-bit value (R5, R545, D41). -/
def romValidOps : BitVec 5 → Bool := fun _ => true

/-- LINK_REG (R5, R21). -/
def linkReg : Reg := 3#5

/-- SP_REG (R5, R21, D8). -/
def spReg : Reg := 29#5

/-- IRQ_VBLANK, a line of the interrupt controller (R5, R411). -/
def irqVblank : BitVec 5 := 4#5

/-- IRQ_TIMER (R5, R411). -/
def irqTimer : BitVec 5 := 5#5

/-- CAUSE_INVALID = CAUSE_SDBBP (R5, R400, D18). -/
def causeInvalid : Cause := 32#6

/-- CAUSE_TRAP (R5, R400, D18). -/
def causeTrap : Cause := 33#6

end Sys2Proof.Config
end

