-- ==== Sys2Proof/Syntax.lean ====
section
/-!
DEFINITION. The instructions: one constructor for each row of spec/opcode_table.json, in the table's order, with the operands its
encoding carries. A 16-bit instruction carries besides the mode of the compact slot it stands in (R112), which fixes its
fall-through address (R354).
-/

namespace Sys2Proof

/-- The sixteen condition codes, 0x0 to 0xF in this order (spec/10_state.md R25). -/
inductive Cond where
  | cs | cc | hi | ls | eq | ne | gt | le | ge | lt | mi | pl | vs | vc | t | al
  deriving DecidableEq, Repr

/-- The mode of a compact slot, its bit 15 = p0: 0 is 16-bit single, 1 is 16-bit parallel (R112). -/
inductive SlotMode where
  | single
  | parallel
  deriving DecidableEq, Repr

/-- Which accumulator half `mtce!` and `mfce!` name: sel 0 = CEL, 1 = CEH (R310). -/
inductive CeHalf where
  | cel
  | ceh
  deriving DecidableEq, Repr

/-- One constructor per row of the opcode table. `cu` is the SP-form's update-flags bit (R103). -/
inductive Instr where
  /-- no operation (R290) -/
  | nop
  /-- trap{cc}: software trap, cause 33 (R297) -/
  | trapCc (c : Cond)
  /-- software debug breakpoint, cause 32 (R296) -/
  | sdbbp
  /-- br{cc} rA (R244) -/
  | brCc (c : Cond) (ra : Reg)
  /-- br{cc}l rA, with link (R245) -/
  | brCcL (c : Cond) (ra : Reg)
  /-- add rD, rA, rB; cu writes N Z C V (R144) -/
  | add (rd ra rb : Reg) (cu : Bool)
  /-- addc rD, rA, rB; cu writes N Z C V (R145) -/
  | addc (rd ra rb : Reg) (cu : Bool)
  /-- sub rD, rA, rB; cu writes N Z C V (R146) -/
  | sub (rd ra rb : Reg) (cu : Bool)
  /-- subc rD, rA, rB; cu writes N Z C V (R147) -/
  | subc (rd ra rb : Reg) (cu : Bool)
  /-- cmp{cc} rA, rB (R149) -/
  | cmpCc (c : Cond) (ra rb : Reg)
  /-- cmpz{cc} rA (R150) -/
  | cmpzCc (c : Cond) (ra : Reg)
  /-- neg rD, rB (R148) -/
  | neg (rd rb : Reg) (cu : Bool)
  /-- and rD, rA, rB (R151) -/
  | and (rd ra rb : Reg) (cu : Bool)
  /-- or rD, rA, rB (R152) -/
  | or (rd ra rb : Reg) (cu : Bool)
  /-- not rD, rA (R153) -/
  | not (rd ra : Reg) (cu : Bool)
  /-- xor rD, rA, rB (R154) -/
  | xor (rd ra rb : Reg) (cu : Bool)
  /-- bitclr rD, rA, bit (R155) -/
  | bitclr (rd ra : Reg) (bit : BitVec 5) (cu : Bool)
  /-- bitset rD, rA, bit (R156) -/
  | bitset (rd ra : Reg) (bit : BitVec 5) (cu : Bool)
  /-- bittst rA, bit (R157) -/
  | bittst (ra : Reg) (bit : BitVec 5)
  /-- bittgl rD, rA, bit (R158) -/
  | bittgl (rd ra : Reg) (bit : BitVec 5) (cu : Bool)
  /-- sll rD, rA, rB; count x[rB] mod 32 (R159) -/
  | sll (rd ra rb : Reg) (cu : Bool)
  /-- srl rD, rA, rB; count x[rB] mod 32 (R160) -/
  | srl (rd ra rb : Reg) (cu : Bool)
  /-- sra rD, rA, rB; count x[rB] mod 32 (R161) -/
  | sra (rd ra rb : Reg) (cu : Bool)
  /-- ror rD, rA, rB; count x[rB] mod 32 (R162) -/
  | ror (rd ra rb : Reg) (cu : Bool)
  /-- rorc rD, rA, rB; count x[rB] mod 32 (R163) -/
  | rorc (rd ra rb : Reg) (cu : Bool)
  /-- rol rD, rA, rB; count x[rB] mod 32 (R164) -/
  | rol (rd ra rb : Reg) (cu : Bool)
  /-- rolc rD, rA, rB; count x[rB] mod 32 (R165) -/
  | rolc (rd ra rb : Reg) (cu : Bool)
  /-- mul rA, rB into CEL, CEH (R220) -/
  | mul (ra rb : Reg)
  /-- mulu rA, rB into CEL, CEH (R221) -/
  | mulu (ra rb : Reg)
  /-- div rA, rB into CEL, CEH (R222) -/
  | div (ra rb : Reg)
  /-- divu rA, rB into CEL, CEH (R223) -/
  | divu (ra rb : Reg)
  /-- mfce rD, sel (R224) -/
  | mfce (rd : Reg) (sel : BitVec 2)
  /-- mtce rD, sel (R225) -/
  | mtce (rd : Reg) (sel : BitVec 2)
  /-- mfsr rD, srB (R291) -/
  | mfsr (rd : Reg) (sb : Reg)
  /-- mtsr srB, rA (R292) -/
  | mtsr (sb : Reg) (ra : Reg)
  /-- t{cc} (R246) -/
  | tCc (c : Cond)
  /-- mv{cc} rD, rA (R247) -/
  | mvCc (c : Cond) (rd ra : Reg)
  /-- extsb rD, rA (R173) -/
  | extsb (rd ra : Reg) (cu : Bool)
  /-- extsh rD, rA (R174) -/
  | extsh (rd ra : Reg) (cu : Bool)
  /-- extzb rD, rA (R175) -/
  | extzb (rd ra : Reg) (cu : Bool)
  /-- extzh rD, rA (R176) -/
  | extzh (rd ra : Reg) (cu : Bool)
  /-- slli rD, rA, imm5 (R166) -/
  | slli (rd ra : Reg) (imm5 : BitVec 5) (cu : Bool)
  /-- srli rD, rA, imm5 (R167) -/
  | srli (rd ra : Reg) (imm5 : BitVec 5) (cu : Bool)
  /-- srai rD, rA, imm5 (R168) -/
  | srai (rd ra : Reg) (imm5 : BitVec 5) (cu : Bool)
  /-- rori rD, rA, imm5 (R169) -/
  | rori (rd ra : Reg) (imm5 : BitVec 5) (cu : Bool)
  /-- roric rD, rA, imm5 (R170) -/
  | roric (rd ra : Reg) (imm5 : BitVec 5) (cu : Bool)
  /-- roli rD, rA, imm5 (R171) -/
  | roli (rd ra : Reg) (imm5 : BitVec 5) (cu : Bool)
  /-- rolic rD, rA, imm5 (R172) -/
  | rolic (rd ra : Reg) (imm5 : BitVec 5) (cu : Bool)
  /-- addi rD, imm16 (R177) -/
  | addi (rd : Reg) (imm16 : BitVec 16)
  /-- cmpi rD, imm16 (R178) -/
  | cmpi (rd : Reg) (imm16 : BitVec 16)
  /-- andi rD, imm16 (R179) -/
  | andi (rd : Reg) (imm16 : BitVec 16)
  /-- ori rD, imm16 (R180) -/
  | ori (rd : Reg) (imm16 : BitVec 16)
  /-- ldi rD, imm16 (R181) -/
  | ldi (rd : Reg) (imm16 : BitVec 16)
  /-- addis rD, imm16 (R182) -/
  | addis (rd : Reg) (imm16 : BitVec 16)
  /-- cmpis rD, imm16 (R183) -/
  | cmpis (rd : Reg) (imm16 : BitVec 16)
  /-- andis rD, imm16 (R184) -/
  | andis (rd : Reg) (imm16 : BitVec 16)
  /-- oris rD, imm16 (R185) -/
  | oris (rd : Reg) (imm16 : BitVec 16)
  /-- ldis rD, imm16 (R186) -/
  | ldis (rd : Reg) (imm16 : BitVec 16)
  /-- j target (R240) -/
  | j (disp24 : BitVec 24)
  /-- jl target, with link (R241) -/
  | jl (disp24 : BitVec 24)
  /-- b{cc} target (R242) -/
  | bCc (c : Cond) (disp22 : BitVec 22)
  /-- b{cc}l target, with link (R243) -/
  | bCcL (c : Cond) (disp22 : BitVec 22)
  /-- mtcr rD, crA (R294) -/
  | mtcr (rd : Reg) (crA : Reg)
  /-- mfcr rD, crA (R293) -/
  | mfcr (rd : Reg) (crA : Reg)
  /-- return from exception (R295) -/
  | rte
  /-- addri rD, rA, imm14 (R187) -/
  | addri (rd ra : Reg) (imm14 : BitVec 14)
  /-- andri rD, rA, imm14 (R188) -/
  | andri (rd ra : Reg) (imm14 : BitVec 14)
  /-- orri rD, rA, imm14 (R189) -/
  | orri (rd ra : Reg) (imm14 : BitVec 14)
  /-- lw rD, [rA, imm15] (R261) -/
  | lw (rd ra : Reg) (imm15 : BitVec 15)
  /-- lh rD, [rA, imm15] (R262) -/
  | lh (rd ra : Reg) (imm15 : BitVec 15)
  /-- lhu rD, [rA, imm15] (R263) -/
  | lhu (rd ra : Reg) (imm15 : BitVec 15)
  /-- lb rD, [rA, imm15] (R264) -/
  | lb (rd ra : Reg) (imm15 : BitVec 15)
  /-- sw rD, [rA, imm15] (R265) -/
  | sw (rd ra : Reg) (imm15 : BitVec 15)
  /-- sh rD, [rA, imm15] (R266) -/
  | sh (rd ra : Reg) (imm15 : BitVec 15)
  /-- lbu rD, [rA, imm15] (R267) -/
  | lbu (rd ra : Reg) (imm15 : BitVec 15)
  /-- sb rD, [rA, imm15] (R268) -/
  | sb (rd ra : Reg) (imm15 : BitVec 15)
  /-- lw.pre rD, [rA, imm12]+ (R269) -/
  | lwPre (rd ra : Reg) (imm12 : BitVec 12)
  /-- lh.pre rD, [rA, imm12]+ (R270) -/
  | lhPre (rd ra : Reg) (imm12 : BitVec 12)
  /-- lhu.pre rD, [rA, imm12]+ (R271) -/
  | lhuPre (rd ra : Reg) (imm12 : BitVec 12)
  /-- lb.pre rD, [rA, imm12]+ (R272) -/
  | lbPre (rd ra : Reg) (imm12 : BitVec 12)
  /-- sw.pre rD, [rA, imm12]+ (R273) -/
  | swPre (rd ra : Reg) (imm12 : BitVec 12)
  /-- sh.pre rD, [rA, imm12]+ (R274) -/
  | shPre (rd ra : Reg) (imm12 : BitVec 12)
  /-- lbu.pre rD, [rA, imm12]+ (R275) -/
  | lbuPre (rd ra : Reg) (imm12 : BitVec 12)
  /-- sb.pre rD, [rA, imm12]+ (R276) -/
  | sbPre (rd ra : Reg) (imm12 : BitVec 12)
  /-- lw.rix rD, [rA, imm12] (R277) -/
  | lwRix (rd ra : Reg) (imm12 : BitVec 12)
  /-- lh.rix rD, [rA, imm12] (R278) -/
  | lhRix (rd ra : Reg) (imm12 : BitVec 12)
  /-- lhu.rix rD, [rA, imm12] (R279) -/
  | lhuRix (rd ra : Reg) (imm12 : BitVec 12)
  /-- lb.rix rD, [rA, imm12] (R280) -/
  | lbRix (rd ra : Reg) (imm12 : BitVec 12)
  /-- sw.rix rD, [rA, imm12] (R281) -/
  | swRix (rd ra : Reg) (imm12 : BitVec 12)
  /-- sh.rix rD, [rA, imm12] (R282) -/
  | shRix (rd ra : Reg) (imm12 : BitVec 12)
  /-- lbu.rix rD, [rA, imm12] (R283) -/
  | lbuRix (rd ra : Reg) (imm12 : BitVec 12)
  /-- sb.rix rD, [rA, imm12] (R284) -/
  | sbRix (rd ra : Reg) (imm12 : BitVec 12)
  /-- nop! (R313) -/
  | nop16 (m : SlotMode)
  /-- mlfh! rD, rA: rD in r0..r15, rA in r16..r31 (R311) -/
  | mlfh16 (m : SlotMode) (rd ra : Reg)
  /-- mhfl! rD, rA: rD in r16..r31, rA in r0..r15 (R312) -/
  | mhfl16 (m : SlotMode) (rd ra : Reg)
  /-- mv! rD, rA (R314) -/
  | mv16 (m : SlotMode) (rd ra : Reg)
  /-- br{cc}! rA (R315) -/
  | brCc16 (m : SlotMode) (c : Cond) (ra : Reg)
  /-- t{cc}! (R319) -/
  | tCc16 (m : SlotMode) (c : Cond)
  /-- br{cc}l! rA, with link (R316) -/
  | brCcL16 (m : SlotMode) (c : Cond) (ra : Reg)
  /-- mtcel! rD, mtceh! rD (R317) -/
  | mtce16 (m : SlotMode) (rd : Reg) (sel : CeHalf)
  /-- mfcel! rD, mfceh! rD (R318) -/
  | mfce16 (m : SlotMode) (rd : Reg) (sel : CeHalf)
  /-- add! rD, rA (R320) -/
  | add16 (m : SlotMode) (rd ra : Reg)
  /-- sub! rD, rA (R321) -/
  | sub16 (m : SlotMode) (rd ra : Reg)
  /-- neg! rD, rA (R322) -/
  | neg16 (m : SlotMode) (rd ra : Reg)
  /-- cmp! rD, rA (R323) -/
  | cmp16 (m : SlotMode) (rd ra : Reg)
  /-- and! rD, rA (R324) -/
  | and16 (m : SlotMode) (rd ra : Reg)
  /-- or! rD, rA (R325) -/
  | or16 (m : SlotMode) (rd ra : Reg)
  /-- not! rD, rA (R326) -/
  | not16 (m : SlotMode) (rd ra : Reg)
  /-- xor! rD, rA (R327) -/
  | xor16 (m : SlotMode) (rd ra : Reg)
  /-- lw! rD, [rA] (R328) -/
  | lw16 (m : SlotMode) (rd ra : Reg)
  /-- lh! rD, [rA] (R330) -/
  | lh16 (m : SlotMode) (rd ra : Reg)
  /-- pop! rD, [rA]: rD any, rA in r0..r7 (R329) -/
  | pop16 (m : SlotMode) (rd ra : Reg)
  /-- lbu! rD, [rA] (R331) -/
  | lbu16 (m : SlotMode) (rd ra : Reg)
  /-- sw! rD, [rA] (R332) -/
  | sw16 (m : SlotMode) (rd ra : Reg)
  /-- sh! rD, [rA] (R334) -/
  | sh16 (m : SlotMode) (rd ra : Reg)
  /-- push! rD, [rA]: rD any, rA in r0..r7 (R333) -/
  | push16 (m : SlotMode) (rd ra : Reg)
  /-- sb! rD, [rA] (R335) -/
  | sb16 (m : SlotMode) (rd ra : Reg)
  /-- j! target (R337) -/
  | j16 (m : SlotMode) (disp11 : BitVec 11)
  /-- jl! target, with link (R336) -/
  | jl16 (m : SlotMode) (disp11 : BitVec 11)
  /-- b{cc}! target (R338) -/
  | bCc16 (m : SlotMode) (c : Cond) (disp8 : BitVec 8)
  /-- ldiu! rD, imm8 (R353) -/
  | ldiu16 (m : SlotMode) (rd : Reg) (imm8 : BitVec 8)
  /-- addei! rD, imm5 (R339) -/
  | addei16 (m : SlotMode) (rd : Reg) (imm5 : BitVec 5)
  /-- slli! rD, imm5 (R340) -/
  | slli16 (m : SlotMode) (rd : Reg) (imm5 : BitVec 5)
  /-- sdbbp!: cause 32 (R341) -/
  | sdbbp16 (m : SlotMode)
  /-- srli! rD, imm5 (R342) -/
  | srli16 (m : SlotMode) (rd : Reg) (imm5 : BitVec 5)
  /-- bitclr! rD, imm5 (R343) -/
  | bitclr16 (m : SlotMode) (rd : Reg) (imm5 : BitVec 5)
  /-- bitset! rD, imm5 (R344) -/
  | bitset16 (m : SlotMode) (rd : Reg) (imm5 : BitVec 5)
  /-- bittst! rD, imm5 (R345) -/
  | bittst16 (m : SlotMode) (rd : Reg) (imm5 : BitVec 5)
  /-- bittgl! rD, imm5 (R346) -/
  | bittgl16 (m : SlotMode) (rd : Reg) (imm5 : BitVec 5)
  /-- lwp! rD, [sp, off] (R347) -/
  | lwp16 (m : SlotMode) (rd : Reg) (imm5 : BitVec 5)
  /-- lhp! rD, [sp, off] (R348) -/
  | lhp16 (m : SlotMode) (rd : Reg) (imm5 : BitVec 5)
  /-- lbup! rD, [sp, off] (R349) -/
  | lbup16 (m : SlotMode) (rd : Reg) (imm5 : BitVec 5)
  /-- swp! rD, [sp, off] (R350) -/
  | swp16 (m : SlotMode) (rd : Reg) (imm5 : BitVec 5)
  /-- shp! rD, [sp, off] (R351) -/
  | shp16 (m : SlotMode) (rd : Reg) (imm5 : BitVec 5)
  /-- sbp! rD, [sp, off] (R352) -/
  | sbp16 (m : SlotMode) (rd : Reg) (imm5 : BitVec 5)
  deriving DecidableEq, Repr

end Sys2Proof
end

