-- ==== Sys2Proof/WellFormed.lean ====
section
/-!
DEFINITION. Which operands an instruction's encoding admits. A 32-bit instruction's operands are exactly its fields, so every
such term is well formed. A 16-bit instruction names registers with 4-bit fields and reaches r0..r15 (R20, R113), but for
`mlfh!` and `mhfl!` (one operand in r16..r31, R311, R312) and `pop!` and `push!` (any rD, rA in r0..r7, R329, R333).
-/

namespace Sys2Proof

/-- A register a 4-bit field names: r0..r15 (R113). -/
def Reg.isLow (r : Reg) : Bool := decide (r.toNat < 16)

/-- A register of the high bank: r16..r31 (R311, R312). -/
def Reg.isHigh (r : Reg) : Bool := decide (16 ≤ r.toNat)

/-- A register a 3-bit field names: r0..r7 (R329, R333). -/
def Reg.isBase (r : Reg) : Bool := decide (r.toNat < 8)

/-- The operands are ones the instruction's encoding can carry. -/
def Instr.wellFormed : Instr → Bool
  | .nop | .trapCc _ | .sdbbp | .brCc _ _ | .brCcL _ _ | .add _ _ _ _ | .addc _ _ _ _ | .sub _ _ _ _ | .subc _ _ _ _
  | .cmpCc _ _ _ | .cmpzCc _ _ | .neg _ _ _ | .and _ _ _ _ | .or _ _ _ _ | .not _ _ _ | .xor _ _ _ _ | .bitclr _ _ _ _
  | .bitset _ _ _ _ | .bittst _ _ | .bittgl _ _ _ _ | .sll _ _ _ _ | .srl _ _ _ _ | .sra _ _ _ _ | .ror _ _ _ _
  | .rorc _ _ _ _ | .rol _ _ _ _ | .rolc _ _ _ _ | .mul _ _ | .mulu _ _ | .div _ _ | .divu _ _ | .mfce _ _ | .mtce _ _
  | .mfsr _ _ | .mtsr _ _ | .tCc _ | .mvCc _ _ _ | .extsb _ _ _ | .extsh _ _ _ | .extzb _ _ _ | .extzh _ _ _
  | .slli _ _ _ _ | .srli _ _ _ _ | .srai _ _ _ _ | .rori _ _ _ _ | .roric _ _ _ _ | .roli _ _ _ _ | .rolic _ _ _ _
  | .addi _ _ | .cmpi _ _ | .andi _ _ | .ori _ _ | .ldi _ _ | .addis _ _ | .cmpis _ _ | .andis _ _ | .oris _ _
  | .ldis _ _ | .j _ | .jl _ | .bCc _ _ | .bCcL _ _ | .mtcr _ _ | .mfcr _ _ | .rte | .addri _ _ _ | .andri _ _ _
  | .orri _ _ _ | .lw _ _ _ | .lh _ _ _ | .lhu _ _ _ | .lb _ _ _ | .sw _ _ _ | .sh _ _ _ | .lbu _ _ _ | .sb _ _ _
  | .lwPre _ _ _ | .lhPre _ _ _ | .lhuPre _ _ _ | .lbPre _ _ _ | .swPre _ _ _ | .shPre _ _ _ | .lbuPre _ _ _
  | .sbPre _ _ _ | .lwRix _ _ _ | .lhRix _ _ _ | .lhuRix _ _ _ | .lbRix _ _ _ | .swRix _ _ _ | .shRix _ _ _
  | .lbuRix _ _ _ | .sbRix _ _ _ => true
  | .nop16 _ => true
  | .mlfh16 _ rd ra => Reg.isLow rd && Reg.isHigh ra
  | .mhfl16 _ rd ra => Reg.isHigh rd && Reg.isLow ra
  | .mv16 _ rd ra => Reg.isLow rd && Reg.isLow ra
  | .brCc16 _ _ ra => Reg.isLow ra
  | .tCc16 _ _ => true
  | .brCcL16 _ _ ra => Reg.isLow ra
  | .mtce16 _ rd _ => Reg.isLow rd
  | .mfce16 _ rd _ => Reg.isLow rd
  | .add16 _ rd ra => Reg.isLow rd && Reg.isLow ra
  | .sub16 _ rd ra => Reg.isLow rd && Reg.isLow ra
  | .neg16 _ rd ra => Reg.isLow rd && Reg.isLow ra
  | .cmp16 _ rd ra => Reg.isLow rd && Reg.isLow ra
  | .and16 _ rd ra => Reg.isLow rd && Reg.isLow ra
  | .or16 _ rd ra => Reg.isLow rd && Reg.isLow ra
  | .not16 _ rd ra => Reg.isLow rd && Reg.isLow ra
  | .xor16 _ rd ra => Reg.isLow rd && Reg.isLow ra
  | .lw16 _ rd ra => Reg.isLow rd && Reg.isLow ra
  | .lh16 _ rd ra => Reg.isLow rd && Reg.isLow ra
  | .pop16 _ _ ra => Reg.isBase ra
  | .lbu16 _ rd ra => Reg.isLow rd && Reg.isLow ra
  | .sw16 _ rd ra => Reg.isLow rd && Reg.isLow ra
  | .sh16 _ rd ra => Reg.isLow rd && Reg.isLow ra
  | .push16 _ _ ra => Reg.isBase ra
  | .sb16 _ rd ra => Reg.isLow rd && Reg.isLow ra
  | .j16 _ _ => true
  | .jl16 _ _ => true
  | .bCc16 _ _ _ => true
  | .ldiu16 _ rd _ => Reg.isLow rd
  | .addei16 _ rd _ => Reg.isLow rd
  | .slli16 _ rd _ => Reg.isLow rd
  | .sdbbp16 _ => true
  | .srli16 _ rd _ => Reg.isLow rd
  | .bitclr16 _ rd _ => Reg.isLow rd
  | .bitset16 _ rd _ => Reg.isLow rd
  | .bittst16 _ rd _ => Reg.isLow rd
  | .bittgl16 _ rd _ => Reg.isLow rd
  | .lwp16 _ rd _ => Reg.isLow rd
  | .lhp16 _ rd _ => Reg.isLow rd
  | .lbup16 _ rd _ => Reg.isLow rd
  | .swp16 _ rd _ => Reg.isLow rd
  | .shp16 _ rd _ => Reg.isLow rd
  | .sbp16 _ rd _ => Reg.isLow rd

end Sys2Proof
end

