-- ==== Sys2Proof/Decode.lean ====
section
/-!
DEFINITION. Decoding a fetched slot (spec/30_encoding.md R100 to R117, spec/45_compact16.md R310, R354) and encoding an instruction.
The decoder is total: every slot gives one instruction or a named reserved encoding (R116, R121). Bits the spec calls ignored are
not looked at (R117); the encoder writes them as 0 (log entry 10).
-/

namespace Sys2Proof

/-! ## Fields -/

/-- The condition a 4-bit code names (R25). -/
def Cond.ofBits (b : BitVec 4) : Cond :=
  match b with
  | 0x0#4 => .cs
  | 0x1#4 => .cc
  | 0x2#4 => .hi
  | 0x3#4 => .ls
  | 0x4#4 => .eq
  | 0x5#4 => .ne
  | 0x6#4 => .gt
  | 0x7#4 => .le
  | 0x8#4 => .ge
  | 0x9#4 => .lt
  | 0xA#4 => .mi
  | 0xB#4 => .pl
  | 0xC#4 => .vs
  | 0xD#4 => .vc
  | 0xE#4 => .t
  | _ => .al

/-- The 4-bit code of a condition (R25). -/
def Cond.bits : Cond → BitVec 4
  | .cs => 0x0#4
  | .cc => 0x1#4
  | .hi => 0x2#4
  | .ls => 0x3#4
  | .eq => 0x4#4
  | .ne => 0x5#4
  | .gt => 0x6#4
  | .le => 0x7#4
  | .ge => 0x8#4
  | .lt => 0x9#4
  | .mi => 0xA#4
  | .pl => 0xB#4
  | .vs => 0xC#4
  | .vc => 0xD#4
  | .t => 0xE#4
  | .al => 0xF#4

/-- OP = slot[31:27], the field that routes decoding (R100). -/
def opField (slot : Word) : BitVec 5 := slot.extractLsb' 27 5

/-- The rD field, slot[24:20] (R102). -/
def rdField (slot : Word) : Reg := slot.extractLsb' 20 5

/-- The rA field, slot[19:15] (R102). -/
def raField (slot : Word) : Reg := slot.extractLsb' 15 5

/-- The rB field, slot[14:10]: a register, an immediate or a system-register number (R103). -/
def rbField (slot : Word) : Reg := slot.extractLsb' 10 5

/-- slot[0]: CU of the SP-form, LK of the branches and jumps (R103, R105, R107). -/
def bit0 (slot : Word) : Bool := slot.getLsbD 0

/-- The condition at slot[13:10]: `br`, `t`, `mv`, `trap` and the B-form (R103, R107). -/
def ccField (slot : Word) : Cond := Cond.ofBits (slot.extractLsb' 10 4)

/-- The condition of `cmp` and `cmpz` at slot[23:20], "taken from rD for CMP" (R103). -/
def cmpCcField (slot : Word) : Cond := Cond.ofBits (slot.extractLsb' 20 4)

/-- The I-form's imm16, slot[16:1] (R104). -/
def imm16Field (slot : Word) : BitVec 16 := slot.extractLsb' 1 16

/-- The RI-form's imm14, slot[14:1] (R109). -/
def imm14Field (slot : Word) : BitVec 14 := slot.extractLsb' 1 14

/-- The memory-form's imm15, slot[14:0] (R110). -/
def imm15Field (slot : Word) : BitVec 15 := slot.extractLsb' 0 15

/-- The RIX-form's imm12, slot[14:3] (R106). -/
def imm12Field (slot : Word) : BitVec 12 := slot.extractLsb' 3 12

/-- The B-form's disp22, slot[26:14] above slot[9:1] (R107). -/
def disp22Field (slot : Word) : BitVec 22 := slot.extractLsb' 14 13 ++ slot.extractLsb' 1 9

/-! ## The 32-bit forms -/

/-- Why a slot or a half is no instruction: the reserved encodings of R116 and R310, each of which raises CAUSE_INVALID (R298). -/
inductive DecodeError where
  /-- OP 0x09, 0x0A, 0x0B, 0x0E or 0x0F (R109, R116) -/
  | reservedOp (op : BitVec 5)
  /-- a func6 of the SP-form outside the table of R115 -/
  | reservedFunc6 (func6 : BitVec 6)
  /-- func3 1, 3 or 7 of the I-form (R104) -/
  | reservedFunc3 (func3 : BitVec 3)
  /-- a CR-form sub-opcode other than 0x00, 0x01, 0x84 (R108) -/
  | reservedSubOp (sub : BitVec 8)
  /-- a reserved selector of a 16-bit format (R310) -/
  | reservedHalf (half : Half)
  /-- fewer or more bytes than the four of a slot (R100); the machine never fetches such a list -/
  | notASlot
  deriving DecidableEq, Repr

/-- The SP-form: func6 = slot[6:1] selects (R103, R115). -/
def decodeSp (s : Word) : Except DecodeError Instr :=
  match s.extractLsb' 1 6 with
  | 0x00#6 => .ok .nop
  | 0x02#6 => .ok (.trapCc (ccField s))
  | 0x03#6 => .ok .sdbbp
  | 0x04#6 => .ok (if bit0 s then .brCcL (ccField s) (raField s) else .brCc (ccField s) (raField s))
  | 0x08#6 => .ok (.add (rdField s) (raField s) (rbField s) (bit0 s))
  | 0x09#6 => .ok (.addc (rdField s) (raField s) (rbField s) (bit0 s))
  | 0x0A#6 => .ok (.sub (rdField s) (raField s) (rbField s) (bit0 s))
  | 0x0B#6 => .ok (.subc (rdField s) (raField s) (rbField s) (bit0 s))
  | 0x0C#6 => .ok (.cmpCc (cmpCcField s) (raField s) (rbField s))
  | 0x0D#6 => .ok (.cmpzCc (cmpCcField s) (raField s))
  | 0x0F#6 => .ok (.neg (rdField s) (rbField s) (bit0 s))
  | 0x10#6 => .ok (.and (rdField s) (raField s) (rbField s) (bit0 s))
  | 0x11#6 => .ok (.or (rdField s) (raField s) (rbField s) (bit0 s))
  | 0x12#6 => .ok (.not (rdField s) (raField s) (bit0 s))
  | 0x13#6 => .ok (.xor (rdField s) (raField s) (rbField s) (bit0 s))
  | 0x14#6 => .ok (.bitclr (rdField s) (raField s) (rbField s) (bit0 s))
  | 0x15#6 => .ok (.bitset (rdField s) (raField s) (rbField s) (bit0 s))
  | 0x16#6 => .ok (.bittst (raField s) (rbField s))
  | 0x17#6 => .ok (.bittgl (rdField s) (raField s) (rbField s) (bit0 s))
  | 0x18#6 => .ok (.sll (rdField s) (raField s) (rbField s) (bit0 s))
  | 0x1A#6 => .ok (.srl (rdField s) (raField s) (rbField s) (bit0 s))
  | 0x1B#6 => .ok (.sra (rdField s) (raField s) (rbField s) (bit0 s))
  | 0x1C#6 => .ok (.ror (rdField s) (raField s) (rbField s) (bit0 s))
  | 0x1D#6 => .ok (.rorc (rdField s) (raField s) (rbField s) (bit0 s))
  | 0x1E#6 => .ok (.rol (rdField s) (raField s) (rbField s) (bit0 s))
  | 0x1F#6 => .ok (.rolc (rdField s) (raField s) (rbField s) (bit0 s))
  | 0x20#6 => .ok (.mul (raField s) (rbField s))
  | 0x21#6 => .ok (.mulu (raField s) (rbField s))
  | 0x22#6 => .ok (.div (raField s) (rbField s))
  | 0x23#6 => .ok (.divu (raField s) (rbField s))
  | 0x24#6 => .ok (.mfce (rdField s) (s.extractLsb' 10 2))
  | 0x25#6 => .ok (.mtce (rdField s) (s.extractLsb' 10 2))
  | 0x28#6 => .ok (.mfsr (rdField s) (rbField s))
  | 0x29#6 => .ok (.mtsr (rbField s) (raField s))
  | 0x2A#6 => .ok (.tCc (ccField s))
  | 0x2B#6 => .ok (.mvCc (ccField s) (rdField s) (raField s))
  | 0x2C#6 => .ok (.extsb (rdField s) (raField s) (bit0 s))
  | 0x2D#6 => .ok (.extsh (rdField s) (raField s) (bit0 s))
  | 0x2E#6 => .ok (.extzb (rdField s) (raField s) (bit0 s))
  | 0x2F#6 => .ok (.extzh (rdField s) (raField s) (bit0 s))
  | 0x38#6 => .ok (.slli (rdField s) (raField s) (rbField s) (bit0 s))
  | 0x3A#6 => .ok (.srli (rdField s) (raField s) (rbField s) (bit0 s))
  | 0x3B#6 => .ok (.srai (rdField s) (raField s) (rbField s) (bit0 s))
  | 0x3C#6 => .ok (.rori (rdField s) (raField s) (rbField s) (bit0 s))
  | 0x3D#6 => .ok (.roric (rdField s) (raField s) (rbField s) (bit0 s))
  | 0x3E#6 => .ok (.roli (rdField s) (raField s) (rbField s) (bit0 s))
  | 0x3F#6 => .ok (.rolic (rdField s) (raField s) (rbField s) (bit0 s))
  | func6 => .error (.reservedFunc6 func6)

/-- The I-form with OP 0x01: func3 = slot[19:17] selects (R104). -/
def decodeImm (s : Word) : Except DecodeError Instr :=
  match s.extractLsb' 17 3 with
  | 0#3 => .ok (.addi (rdField s) (imm16Field s))
  | 2#3 => .ok (.cmpi (rdField s) (imm16Field s))
  | 4#3 => .ok (.andi (rdField s) (imm16Field s))
  | 5#3 => .ok (.ori (rdField s) (imm16Field s))
  | 6#3 => .ok (.ldi (rdField s) (imm16Field s))
  | func3 => .error (.reservedFunc3 func3)

/-- The I-form with OP 0x05, the immediate "left-shifted by 16" (R104). -/
def decodeImmShifted (s : Word) : Except DecodeError Instr :=
  match s.extractLsb' 17 3 with
  | 0#3 => .ok (.addis (rdField s) (imm16Field s))
  | 2#3 => .ok (.cmpis (rdField s) (imm16Field s))
  | 4#3 => .ok (.andis (rdField s) (imm16Field s))
  | 5#3 => .ok (.oris (rdField s) (imm16Field s))
  | 6#3 => .ok (.ldis (rdField s) (imm16Field s))
  | func3 => .error (.reservedFunc3 func3)

/-- The RIX-form with write-back, OP 0x03: func3 = slot[2:0]; every value is valid (R106, R116). -/
def decodePre (s : Word) : Instr :=
  match s.extractLsb' 0 3 with
  | 0#3 => .lwPre (rdField s) (raField s) (imm12Field s)
  | 1#3 => .lhPre (rdField s) (raField s) (imm12Field s)
  | 2#3 => .lhuPre (rdField s) (raField s) (imm12Field s)
  | 3#3 => .lbPre (rdField s) (raField s) (imm12Field s)
  | 4#3 => .swPre (rdField s) (raField s) (imm12Field s)
  | 5#3 => .shPre (rdField s) (raField s) (imm12Field s)
  | 6#3 => .lbuPre (rdField s) (raField s) (imm12Field s)
  | _ => .sbPre (rdField s) (raField s) (imm12Field s)

/-- The RIX-form without write-back, OP 0x07 (R106). -/
def decodeRix (s : Word) : Instr :=
  match s.extractLsb' 0 3 with
  | 0#3 => .lwRix (rdField s) (raField s) (imm12Field s)
  | 1#3 => .lhRix (rdField s) (raField s) (imm12Field s)
  | 2#3 => .lhuRix (rdField s) (raField s) (imm12Field s)
  | 3#3 => .lbRix (rdField s) (raField s) (imm12Field s)
  | 4#3 => .swRix (rdField s) (raField s) (imm12Field s)
  | 5#3 => .shRix (rdField s) (raField s) (imm12Field s)
  | 6#3 => .lbuRix (rdField s) (raField s) (imm12Field s)
  | _ => .sbRix (rdField s) (raField s) (imm12Field s)

/-- The CR-form: sub-opcode = slot[7:0] (R108). -/
def decodeCr (s : Word) : Except DecodeError Instr :=
  match s.extractLsb' 0 8 with
  | 0x00#8 => .ok (.mtcr (rdField s) (raField s))
  | 0x01#8 => .ok (.mfcr (rdField s) (raField s))
  | 0x84#8 => .ok .rte
  | sub => .error (.reservedSubOp sub)

/-- A slot with OP in 0x00..0x17 is one 32-bit instruction, routed by OP (R100, R101). -/
def decode32 (s : Word) : Except DecodeError Instr :=
  match opField s with
  | 0x00#5 => decodeSp s
  | 0x01#5 => decodeImm s
  | 0x02#5 => .ok (if bit0 s then .jl (s.extractLsb' 1 24) else .j (s.extractLsb' 1 24))
  | 0x03#5 => .ok (decodePre s)
  | 0x04#5 => .ok (if bit0 s then .bCcL (ccField s) (disp22Field s) else .bCc (ccField s) (disp22Field s))
  | 0x05#5 => decodeImmShifted s
  | 0x06#5 => decodeCr s
  | 0x07#5 => .ok (decodeRix s)
  | 0x08#5 => .ok (.addri (rdField s) (raField s) (imm14Field s))
  | 0x0C#5 => .ok (.andri (rdField s) (raField s) (imm14Field s))
  | 0x0D#5 => .ok (.orri (rdField s) (raField s) (imm14Field s))
  | 0x10#5 => .ok (.lw (rdField s) (raField s) (imm15Field s))
  | 0x11#5 => .ok (.lh (rdField s) (raField s) (imm15Field s))
  | 0x12#5 => .ok (.lhu (rdField s) (raField s) (imm15Field s))
  | 0x13#5 => .ok (.lb (rdField s) (raField s) (imm15Field s))
  | 0x14#5 => .ok (.sw (rdField s) (raField s) (imm15Field s))
  | 0x15#5 => .ok (.sh (rdField s) (raField s) (imm15Field s))
  | 0x16#5 => .ok (.lbu (rdField s) (raField s) (imm15Field s))
  | 0x17#5 => .ok (.sb (rdField s) (raField s) (imm15Field s))
  | op => .error (.reservedOp op)

/-! ## Compact slots -/

/-- The register a 4-bit field names: r0..r15 (R113). -/
def lowReg (v : BitVec 4) : Reg := v.setWidth 5

/-- The register 16 + v of the high bank (R311, R312). -/
def highReg (v : BitVec 4) : Reg := 16#5 + v.setWidth 5

/-- H[11:8] as a register r0..r15 (R113). -/
def rd4Field (h : Half) : Reg := lowReg (h.extractLsb' 8 4)

/-- H[7:4] as a register r0..r15 (R113). -/
def ra4Field (h : Half) : Reg := lowReg (h.extractLsb' 4 4)

/-- The condition of a 16-bit branch or test, H[11:8] (R113, R315, R338). -/
def cc4Field (h : Half) : Cond := Cond.ofBits (h.extractLsb' 8 4)

/-- The rD of `push!` and `pop!`, H[7] above H[11:8] (R329, R333). -/
def rdWideField (h : Half) : Reg := h.extractLsb' 7 1 ++ h.extractLsb' 8 4

/-- The rA of `push!` and `pop!`, H[6:4]: r0..r7 (R329, R333). -/
def ra3Field (h : Half) : Reg := (h.extractLsb' 4 3).setWidth 5

/-- Format 0, move and register branch: func4 = H[3:0] (R310). -/
def decodeF0 (m : SlotMode) (h : Half) : Except DecodeError Instr :=
  match h.extractLsb' 0 4 with
  | 0x0#4 => .ok (.nop16 m)
  | 0x1#4 => .ok (.mlfh16 m (rd4Field h) (highReg (h.extractLsb' 4 4)))
  | 0x2#4 => .ok (.mhfl16 m (highReg (h.extractLsb' 8 4)) (ra4Field h))
  | 0x3#4 => .ok (.mv16 m (rd4Field h) (ra4Field h))
  | 0x4#4 => .ok (.brCc16 m (cc4Field h) (ra4Field h))
  | 0x5#4 => .ok (.tCc16 m (cc4Field h))
  | 0xC#4 => .ok (.brCcL16 m (cc4Field h) (ra4Field h))
  | _ => .error (.reservedHalf h)

/-- Format 1, CE transfer: func4 = H[3:0], sel = H[7:4]; sel 0 = CEL, 1 = CEH, the rest reserved (R310). -/
def decodeF1 (m : SlotMode) (h : Half) : Except DecodeError Instr :=
  match h.extractLsb' 0 4, h.extractLsb' 4 4 with
  | 0x0#4, 0x0#4 => .ok (.mtce16 m (rd4Field h) .cel)
  | 0x0#4, 0x1#4 => .ok (.mtce16 m (rd4Field h) .ceh)
  | 0x1#4, 0x0#4 => .ok (.mfce16 m (rd4Field h) .cel)
  | 0x1#4, 0x1#4 => .ok (.mfce16 m (rd4Field h) .ceh)
  | _, _ => .error (.reservedHalf h)

/-- Format 2, ALU, load and store through a register, stack: func4 = H[3:0], none reserved (R310). -/
def decodeF2 (m : SlotMode) (h : Half) : Instr :=
  match h.extractLsb' 0 4 with
  | 0x0#4 => .add16 m (rd4Field h) (ra4Field h)
  | 0x1#4 => .sub16 m (rd4Field h) (ra4Field h)
  | 0x2#4 => .neg16 m (rd4Field h) (ra4Field h)
  | 0x3#4 => .cmp16 m (rd4Field h) (ra4Field h)
  | 0x4#4 => .and16 m (rd4Field h) (ra4Field h)
  | 0x5#4 => .or16 m (rd4Field h) (ra4Field h)
  | 0x6#4 => .not16 m (rd4Field h) (ra4Field h)
  | 0x7#4 => .xor16 m (rd4Field h) (ra4Field h)
  | 0x8#4 => .lw16 m (rd4Field h) (ra4Field h)
  | 0x9#4 => .lh16 m (rd4Field h) (ra4Field h)
  | 0xA#4 => .pop16 m (rdWideField h) (ra3Field h)
  | 0xB#4 => .lbu16 m (rd4Field h) (ra4Field h)
  | 0xC#4 => .sw16 m (rd4Field h) (ra4Field h)
  | 0xD#4 => .sh16 m (rd4Field h) (ra4Field h)
  | 0xE#4 => .push16 m (rdWideField h) (ra3Field h)
  | _ => .sb16 m (rd4Field h) (ra4Field h)

/-- Format 6, shift, bit and small add: func3 = H[2:0], none reserved (R310). -/
def decodeF6 (m : SlotMode) (h : Half) : Instr :=
  match h.extractLsb' 0 3 with
  | 0#3 => .addei16 m (rd4Field h) (h.extractLsb' 3 5)
  | 1#3 => .slli16 m (rd4Field h) (h.extractLsb' 3 5)
  | 2#3 => .sdbbp16 m
  | 3#3 => .srli16 m (rd4Field h) (h.extractLsb' 3 5)
  | 4#3 => .bitclr16 m (rd4Field h) (h.extractLsb' 3 5)
  | 5#3 => .bitset16 m (rd4Field h) (h.extractLsb' 3 5)
  | 6#3 => .bittst16 m (rd4Field h) (h.extractLsb' 3 5)
  | _ => .bittgl16 m (rd4Field h) (h.extractLsb' 3 5)

/-- Format 7, stack-pointer-relative load and store: func3 = H[2:0]; 2 and 6 are reserved (R310). -/
def decodeF7 (m : SlotMode) (h : Half) : Except DecodeError Instr :=
  match h.extractLsb' 0 3 with
  | 0#3 => .ok (.lwp16 m (rd4Field h) (h.extractLsb' 3 5))
  | 1#3 => .ok (.lhp16 m (rd4Field h) (h.extractLsb' 3 5))
  | 3#3 => .ok (.lbup16 m (rd4Field h) (h.extractLsb' 3 5))
  | 4#3 => .ok (.swp16 m (rd4Field h) (h.extractLsb' 3 5))
  | 5#3 => .ok (.shp16 m (rd4Field h) (h.extractLsb' 3 5))
  | 7#3 => .ok (.sbp16 m (rd4Field h) (h.extractLsb' 3 5))
  | _ => .error (.reservedHalf h)

/-- A half decodes from its body H[14:0], by F = H[14:12] (R113, R310). -/
def decodeHalf (m : SlotMode) (h : Half) : Except DecodeError Instr :=
  match h.extractLsb' 12 3 with
  | 0#3 => decodeF0 m h
  | 1#3 => decodeF1 m h
  | 2#3 => .ok (decodeF2 m h)
  | 3#3 => .ok (if h.getLsbD 0 then .jl16 m (h.extractLsb' 1 11) else .j16 m (h.extractLsb' 1 11))
  | 4#3 => .ok (.bCc16 m (cc4Field h) (h.extractLsb' 0 8))
  | 5#3 => .ok (.ldiu16 m (rd4Field h) (h.extractLsb' 0 8))
  | 6#3 => .ok (decodeF6 m h)
  | _ => decodeF7 m h

/-- "Because a compact slot is recognised by slot[31:30] = 11" (R111): OP in 0x18..0x1F. -/
def isCompact (slot : Word) : Bool := slot.extractLsb' 30 2 == 3#2

/-- p0 = slot[15] selects the mode of a compact slot (R112). -/
def slotMode (slot : Word) : SlotMode := if slot.getLsbD 15 then .parallel else .single

/-- The half of a compact slot that executes: by pc[1] in 16-bit single mode, by T in 16-bit parallel mode (R112). -/
def selectHalf (slot : Word) (pc1 t : Bool) : Half :=
  match slotMode slot with
  | .single => if pc1 then slot.extractLsb' 16 16 else slot.extractLsb' 0 16
  | .parallel => if t then slot.extractLsb' 0 16 else slot.extractLsb' 16 16

/-- Decoding a fetched slot; `pc1` is pc[1] and `t` the T flag as they stand before the step (R100, R112, R121). -/
def decodeSlot (slot : Word) (pc1 t : Bool) : Except DecodeError Instr :=
  if isCompact slot then decodeHalf (slotMode slot) (selectHalf slot pc1 t) else decode32 slot

/-- The slot four bytes of memory make, the lowest address first: "the little-endian word" (R65, R100). -/
def slotOfBytes (b0 b1 b2 b3 : Byte) : Word := b3 ++ b2 ++ b1 ++ b0

/-- The decoder on the bytes of a slot, from the lowest address up. -/
def decodeBytes (bytes : List Byte) (pc1 t : Bool) : Except DecodeError Instr :=
  match bytes with
  | [b0, b1, b2, b3] => decodeSlot (slotOfBytes b0 b1 b2 b3) pc1 t
  | _ => .error .notASlot

/-! ## Encoding -/

/-- A field's bits at position `k` of a word of `w` bits. -/
def place {n : Nat} (w : Nat) (v : BitVec n) (k : Nat) : BitVec w := v.setWidth w <<< k

/-- SP-form (R103). -/
def spForm (func6 : BitVec 6) (d a b : Reg) (cu : Bool) : Word :=
  place 32 d 20 ||| place 32 a 15 ||| place 32 b 10 ||| place 32 func6 1 ||| place 32 (BitVec.ofBool cu) 0

/-- I-form (R104). -/
def immForm (op : BitVec 5) (func3 : BitVec 3) (d : Reg) (imm : BitVec 16) : Word :=
  place 32 op 27 ||| place 32 d 20 ||| place 32 func3 17 ||| place 32 imm 1

/-- J-form (R105). -/
def jForm (disp : BitVec 24) (lk : Bool) : Word := place 32 2#5 27 ||| place 32 disp 1 ||| place 32 (BitVec.ofBool lk) 0

/-- B-form, disp22 "spread across two fields" (R107). -/
def bForm (c : Cond) (disp : BitVec 22) (lk : Bool) : Word :=
  place 32 4#5 27 ||| place 32 (disp.extractLsb' 9 13) 14 ||| place 32 c.bits 10 ||| place 32 (disp.extractLsb' 0 9) 1
    ||| place 32 (BitVec.ofBool lk) 0

/-- RIX-form (R106). -/
def rixForm (op : BitVec 5) (func3 : BitVec 3) (d a : Reg) (imm : BitVec 12) : Word :=
  place 32 op 27 ||| place 32 d 20 ||| place 32 a 15 ||| place 32 imm 3 ||| place 32 func3 0

/-- CR-form (R108). -/
def crForm (sub : BitVec 8) (d a : Reg) : Word := place 32 6#5 27 ||| place 32 d 20 ||| place 32 a 15 ||| place 32 sub 0

/-- RI-form (R109). -/
def riForm (op : BitVec 5) (d a : Reg) (imm : BitVec 14) : Word :=
  place 32 op 27 ||| place 32 d 20 ||| place 32 a 15 ||| place 32 imm 1

/-- memory-form (R110). -/
def memForm (op : BitVec 5) (d a : Reg) (imm : BitVec 15) : Word :=
  place 32 op 27 ||| place 32 d 20 ||| place 32 a 15 ||| place 32 imm 0

/-- 16-bit formats 0 to 2: three 4-bit fields below F (R113). -/
def nibbleForm (f : BitVec 3) (hi mid lo : BitVec 4) : Half :=
  place 16 f 12 ||| place 16 hi 8 ||| place 16 mid 4 ||| place 16 lo 0

/-- 16-bit format 3: disp11 and LK (R113). -/
def jumpForm (disp : BitVec 11) (lk : Bool) : Half := place 16 3#3 12 ||| place 16 disp 1 ||| place 16 (BitVec.ofBool lk) 0

/-- 16-bit formats 4 and 5: a 4-bit field and eight bits (R113). -/
def byteForm (f : BitVec 3) (hi : BitVec 4) (lo : BitVec 8) : Half := place 16 f 12 ||| place 16 hi 8 ||| place 16 lo 0

/-- 16-bit formats 6 and 7: rD4, imm5, func3 (R113). -/
def fiveForm (f : BitVec 3) (d : BitVec 4) (imm : BitVec 5) (func3 : BitVec 3) : Half :=
  place 16 f 12 ||| place 16 d 8 ||| place 16 imm 3 ||| place 16 func3 0

/-- The 4-bit field of a register: r0..r15 as they are, r16..r31 less 16 (R113, R311, R312). -/
def reg4 (r : Reg) : BitVec 4 := r.setWidth 4

/-- The half of `push!` and `pop!` (R329, R333). -/
def stackForm (func4 : BitVec 4) (d a : Reg) : Half :=
  place 16 2#3 12 ||| place 16 (d.extractLsb' 0 4) 8 ||| place 16 (d.extractLsb' 4 1) 7 ||| place 16 (a.extractLsb' 0 3) 4
    ||| place 16 func4 0

/-- The selector of a CE half: 0 = CEL, 1 = CEH (R310). -/
def CeHalf.sel : CeHalf → BitVec 4
  | .cel => 0#4
  | .ceh => 1#4

/-- What an instruction's encoding is: one 32-bit slot, or a half (bit 15 clear) and the mode of the slot it stands in. -/
inductive Encoding where
  | word (w : Word)
  | half (m : SlotMode) (body : Half)
  deriving DecidableEq, Repr

/-- The encoding of an instruction, from the tables of R103 to R115 and R310. -/
def encoding : Instr → Encoding
  | .nop => .word (spForm 0x00#6 0#5 0#5 0#5 false)
  | .trapCc c => .word (spForm 0x02#6 0#5 0#5 (c.bits.setWidth 5) false)
  | .sdbbp => .word (spForm 0x03#6 0#5 0#5 0#5 false)
  | .brCc c ra => .word (spForm 0x04#6 0#5 ra (c.bits.setWidth 5) false)
  | .brCcL c ra => .word (spForm 0x04#6 0#5 ra (c.bits.setWidth 5) true)
  | .add rd ra rb cu => .word (spForm 0x08#6 rd ra rb cu)
  | .addc rd ra rb cu => .word (spForm 0x09#6 rd ra rb cu)
  | .sub rd ra rb cu => .word (spForm 0x0A#6 rd ra rb cu)
  | .subc rd ra rb cu => .word (spForm 0x0B#6 rd ra rb cu)
  | .cmpCc c ra rb => .word (spForm 0x0C#6 (c.bits.setWidth 5) ra rb false)
  | .cmpzCc c ra => .word (spForm 0x0D#6 (c.bits.setWidth 5) ra 0#5 false)
  | .neg rd rb cu => .word (spForm 0x0F#6 rd 0#5 rb cu)
  | .and rd ra rb cu => .word (spForm 0x10#6 rd ra rb cu)
  | .or rd ra rb cu => .word (spForm 0x11#6 rd ra rb cu)
  | .not rd ra cu => .word (spForm 0x12#6 rd ra 0#5 cu)
  | .xor rd ra rb cu => .word (spForm 0x13#6 rd ra rb cu)
  | .bitclr rd ra bit cu => .word (spForm 0x14#6 rd ra bit cu)
  | .bitset rd ra bit cu => .word (spForm 0x15#6 rd ra bit cu)
  | .bittst ra bit => .word (spForm 0x16#6 0#5 ra bit false)
  | .bittgl rd ra bit cu => .word (spForm 0x17#6 rd ra bit cu)
  | .sll rd ra rb cu => .word (spForm 0x18#6 rd ra rb cu)
  | .srl rd ra rb cu => .word (spForm 0x1A#6 rd ra rb cu)
  | .sra rd ra rb cu => .word (spForm 0x1B#6 rd ra rb cu)
  | .ror rd ra rb cu => .word (spForm 0x1C#6 rd ra rb cu)
  | .rorc rd ra rb cu => .word (spForm 0x1D#6 rd ra rb cu)
  | .rol rd ra rb cu => .word (spForm 0x1E#6 rd ra rb cu)
  | .rolc rd ra rb cu => .word (spForm 0x1F#6 rd ra rb cu)
  | .mul ra rb => .word (spForm 0x20#6 0#5 ra rb false)
  | .mulu ra rb => .word (spForm 0x21#6 0#5 ra rb false)
  | .div ra rb => .word (spForm 0x22#6 0#5 ra rb false)
  | .divu ra rb => .word (spForm 0x23#6 0#5 ra rb false)
  | .mfce rd sel => .word (spForm 0x24#6 rd 0#5 (sel.setWidth 5) false)
  | .mtce rd sel => .word (spForm 0x25#6 rd 0#5 (sel.setWidth 5) false)
  | .mfsr rd sb => .word (spForm 0x28#6 rd 0#5 sb false)
  | .mtsr sb ra => .word (spForm 0x29#6 0#5 ra sb false)
  | .tCc c => .word (spForm 0x2A#6 0#5 0#5 (c.bits.setWidth 5) false)
  | .mvCc c rd ra => .word (spForm 0x2B#6 rd ra (c.bits.setWidth 5) false)
  | .extsb rd ra cu => .word (spForm 0x2C#6 rd ra 0#5 cu)
  | .extsh rd ra cu => .word (spForm 0x2D#6 rd ra 0#5 cu)
  | .extzb rd ra cu => .word (spForm 0x2E#6 rd ra 0#5 cu)
  | .extzh rd ra cu => .word (spForm 0x2F#6 rd ra 0#5 cu)
  | .slli rd ra imm5 cu => .word (spForm 0x38#6 rd ra imm5 cu)
  | .srli rd ra imm5 cu => .word (spForm 0x3A#6 rd ra imm5 cu)
  | .srai rd ra imm5 cu => .word (spForm 0x3B#6 rd ra imm5 cu)
  | .rori rd ra imm5 cu => .word (spForm 0x3C#6 rd ra imm5 cu)
  | .roric rd ra imm5 cu => .word (spForm 0x3D#6 rd ra imm5 cu)
  | .roli rd ra imm5 cu => .word (spForm 0x3E#6 rd ra imm5 cu)
  | .rolic rd ra imm5 cu => .word (spForm 0x3F#6 rd ra imm5 cu)
  | .addi rd imm16 => .word (immForm 1#5 0#3 rd imm16)
  | .cmpi rd imm16 => .word (immForm 1#5 2#3 rd imm16)
  | .andi rd imm16 => .word (immForm 1#5 4#3 rd imm16)
  | .ori rd imm16 => .word (immForm 1#5 5#3 rd imm16)
  | .ldi rd imm16 => .word (immForm 1#5 6#3 rd imm16)
  | .addis rd imm16 => .word (immForm 5#5 0#3 rd imm16)
  | .cmpis rd imm16 => .word (immForm 5#5 2#3 rd imm16)
  | .andis rd imm16 => .word (immForm 5#5 4#3 rd imm16)
  | .oris rd imm16 => .word (immForm 5#5 5#3 rd imm16)
  | .ldis rd imm16 => .word (immForm 5#5 6#3 rd imm16)
  | .j disp24 => .word (jForm disp24 false)
  | .jl disp24 => .word (jForm disp24 true)
  | .bCc c disp22 => .word (bForm c disp22 false)
  | .bCcL c disp22 => .word (bForm c disp22 true)
  | .mtcr rd crA => .word (crForm 0x00#8 rd crA)
  | .mfcr rd crA => .word (crForm 0x01#8 rd crA)
  | .rte => .word (crForm 0x84#8 0#5 0#5)
  | .addri rd ra imm14 => .word (riForm 0x08#5 rd ra imm14)
  | .andri rd ra imm14 => .word (riForm 0x0C#5 rd ra imm14)
  | .orri rd ra imm14 => .word (riForm 0x0D#5 rd ra imm14)
  | .lw rd ra imm15 => .word (memForm 0x10#5 rd ra imm15)
  | .lh rd ra imm15 => .word (memForm 0x11#5 rd ra imm15)
  | .lhu rd ra imm15 => .word (memForm 0x12#5 rd ra imm15)
  | .lb rd ra imm15 => .word (memForm 0x13#5 rd ra imm15)
  | .sw rd ra imm15 => .word (memForm 0x14#5 rd ra imm15)
  | .sh rd ra imm15 => .word (memForm 0x15#5 rd ra imm15)
  | .lbu rd ra imm15 => .word (memForm 0x16#5 rd ra imm15)
  | .sb rd ra imm15 => .word (memForm 0x17#5 rd ra imm15)
  | .lwPre rd ra imm12 => .word (rixForm 3#5 0#3 rd ra imm12)
  | .lhPre rd ra imm12 => .word (rixForm 3#5 1#3 rd ra imm12)
  | .lhuPre rd ra imm12 => .word (rixForm 3#5 2#3 rd ra imm12)
  | .lbPre rd ra imm12 => .word (rixForm 3#5 3#3 rd ra imm12)
  | .swPre rd ra imm12 => .word (rixForm 3#5 4#3 rd ra imm12)
  | .shPre rd ra imm12 => .word (rixForm 3#5 5#3 rd ra imm12)
  | .lbuPre rd ra imm12 => .word (rixForm 3#5 6#3 rd ra imm12)
  | .sbPre rd ra imm12 => .word (rixForm 3#5 7#3 rd ra imm12)
  | .lwRix rd ra imm12 => .word (rixForm 7#5 0#3 rd ra imm12)
  | .lhRix rd ra imm12 => .word (rixForm 7#5 1#3 rd ra imm12)
  | .lhuRix rd ra imm12 => .word (rixForm 7#5 2#3 rd ra imm12)
  | .lbRix rd ra imm12 => .word (rixForm 7#5 3#3 rd ra imm12)
  | .swRix rd ra imm12 => .word (rixForm 7#5 4#3 rd ra imm12)
  | .shRix rd ra imm12 => .word (rixForm 7#5 5#3 rd ra imm12)
  | .lbuRix rd ra imm12 => .word (rixForm 7#5 6#3 rd ra imm12)
  | .sbRix rd ra imm12 => .word (rixForm 7#5 7#3 rd ra imm12)
  | .nop16 m => .half m (nibbleForm 0#3 0#4 0#4 0x0#4)
  | .mlfh16 m rd ra => .half m (nibbleForm 0#3 (reg4 rd) (reg4 ra) 0x1#4)
  | .mhfl16 m rd ra => .half m (nibbleForm 0#3 (reg4 rd) (reg4 ra) 0x2#4)
  | .mv16 m rd ra => .half m (nibbleForm 0#3 (reg4 rd) (reg4 ra) 0x3#4)
  | .brCc16 m c ra => .half m (nibbleForm 0#3 c.bits (reg4 ra) 0x4#4)
  | .tCc16 m c => .half m (nibbleForm 0#3 c.bits 0#4 0x5#4)
  | .brCcL16 m c ra => .half m (nibbleForm 0#3 c.bits (reg4 ra) 0xC#4)
  | .mtce16 m rd sel => .half m (nibbleForm 1#3 (reg4 rd) sel.sel 0x0#4)
  | .mfce16 m rd sel => .half m (nibbleForm 1#3 (reg4 rd) sel.sel 0x1#4)
  | .add16 m rd ra => .half m (nibbleForm 2#3 (reg4 rd) (reg4 ra) 0x0#4)
  | .sub16 m rd ra => .half m (nibbleForm 2#3 (reg4 rd) (reg4 ra) 0x1#4)
  | .neg16 m rd ra => .half m (nibbleForm 2#3 (reg4 rd) (reg4 ra) 0x2#4)
  | .cmp16 m rd ra => .half m (nibbleForm 2#3 (reg4 rd) (reg4 ra) 0x3#4)
  | .and16 m rd ra => .half m (nibbleForm 2#3 (reg4 rd) (reg4 ra) 0x4#4)
  | .or16 m rd ra => .half m (nibbleForm 2#3 (reg4 rd) (reg4 ra) 0x5#4)
  | .not16 m rd ra => .half m (nibbleForm 2#3 (reg4 rd) (reg4 ra) 0x6#4)
  | .xor16 m rd ra => .half m (nibbleForm 2#3 (reg4 rd) (reg4 ra) 0x7#4)
  | .lw16 m rd ra => .half m (nibbleForm 2#3 (reg4 rd) (reg4 ra) 0x8#4)
  | .lh16 m rd ra => .half m (nibbleForm 2#3 (reg4 rd) (reg4 ra) 0x9#4)
  | .pop16 m rd ra => .half m (stackForm 0xA#4 rd ra)
  | .lbu16 m rd ra => .half m (nibbleForm 2#3 (reg4 rd) (reg4 ra) 0xB#4)
  | .sw16 m rd ra => .half m (nibbleForm 2#3 (reg4 rd) (reg4 ra) 0xC#4)
  | .sh16 m rd ra => .half m (nibbleForm 2#3 (reg4 rd) (reg4 ra) 0xD#4)
  | .push16 m rd ra => .half m (stackForm 0xE#4 rd ra)
  | .sb16 m rd ra => .half m (nibbleForm 2#3 (reg4 rd) (reg4 ra) 0xF#4)
  | .j16 m disp11 => .half m (jumpForm disp11 false)
  | .jl16 m disp11 => .half m (jumpForm disp11 true)
  | .bCc16 m c disp8 => .half m (byteForm 4#3 c.bits disp8)
  | .ldiu16 m rd imm8 => .half m (byteForm 5#3 (reg4 rd) imm8)
  | .addei16 m rd imm5 => .half m (fiveForm 6#3 (reg4 rd) imm5 0#3)
  | .slli16 m rd imm5 => .half m (fiveForm 6#3 (reg4 rd) imm5 1#3)
  | .sdbbp16 m => .half m (fiveForm 6#3 0#4 0#5 2#3)
  | .srli16 m rd imm5 => .half m (fiveForm 6#3 (reg4 rd) imm5 3#3)
  | .bitclr16 m rd imm5 => .half m (fiveForm 6#3 (reg4 rd) imm5 4#3)
  | .bitset16 m rd imm5 => .half m (fiveForm 6#3 (reg4 rd) imm5 5#3)
  | .bittst16 m rd imm5 => .half m (fiveForm 6#3 (reg4 rd) imm5 6#3)
  | .bittgl16 m rd imm5 => .half m (fiveForm 6#3 (reg4 rd) imm5 7#3)
  | .lwp16 m rd imm5 => .half m (fiveForm 7#3 (reg4 rd) imm5 0#3)
  | .lhp16 m rd imm5 => .half m (fiveForm 7#3 (reg4 rd) imm5 1#3)
  | .lbup16 m rd imm5 => .half m (fiveForm 7#3 (reg4 rd) imm5 3#3)
  | .swp16 m rd imm5 => .half m (fiveForm 7#3 (reg4 rd) imm5 4#3)
  | .shp16 m rd imm5 => .half m (fiveForm 7#3 (reg4 rd) imm5 5#3)
  | .sbp16 m rd imm5 => .half m (fiveForm 7#3 (reg4 rd) imm5 7#3)

/-- The mode flag p0 of a compact slot (R112). -/
def SlotMode.flag : SlotMode → Bool
  | .single => false
  | .parallel => true

/-- A compact slot with a half in H0 and the filler `slli! r0, 0` (0xE001) in H1 (R340; spec/95_test_vectors.md section 1). -/
def lowSlot (h : Half) : Word := 0xE0010000#32 ||| place 32 h 0

/-- A compact slot with a half in H1, where bits 31:30 are 11 (R111), and `nop!` in H0, whose bit 15 is the mode flag. -/
def highSlot (m : SlotMode) (h : Half) : Word :=
  0x80000000#32 ||| place 32 h 16 ||| place 32 (BitVec.ofBool m.flag) 15

/-- The slot of an instruction: its word, or its half in H0 of a slot of its mode. -/
def encode (i : Instr) : Word :=
  match encoding i with
  | .word w => w
  | .half m body => lowSlot (body ||| place 16 (BitVec.ofBool m.flag) 15)

/-- The slot of a 16-bit instruction with its half in H1, which can hold formats 4 to 7 only (R113). -/
def encodeHigh (i : Instr) : Word :=
  match encoding i with
  | .word w => w
  | .half m body => highSlot m body

/-- The instruction's half can stand in H1: its body's bit 14 is 1, so formats 4 to 7 (R111, R113). -/
def fitsHigh (i : Instr) : Bool :=
  match encoding i with
  | .word _ => false
  | .half _ body => body.getLsbD 14

/-! ## The opcode table's numbering -/

/-- The slot that holds an instruction of the opcode table, `nbits` of whose bits are `w`: a 32-bit row is the slot, a 16-bit row is
the half H0 (its bit 15 the mode flag) beside the filler H1. -/
def tableSlot (nbits w : Nat) : Word :=
  if nbits ≤ 16 then lowSlot (BitVec.ofNat 16 w) else BitVec.ofNat 32 w

/-- The bytes of a slot as memory holds them, the lowest address first (R65). -/
def slotBytes (slot : Word) : List Byte :=
  [slot.extractLsb' 0 8, slot.extractLsb' 8 8, slot.extractLsb' 16 8, slot.extractLsb' 24 8]

/-- The instruction the decoder reads from an instruction of the opcode table. The slot is entered at its lower half (pc[1] = 0) and, if its
mode flag makes it a parallel pair, with T = 1, so that the half given executes (R112). -/
def decodeTableWord (nbits w : Nat) : Option Instr :=
  match decodeBytes (slotBytes (tableSlot nbits w)) false true with
  | .ok i => some i
  | .error _ => none

end Sys2Proof
end

