-- ==== Sys2Proof/Machine/State.lean ====
section
/-!
DEFINITION. The state of the machine (spec/10_state.md), as plain data, the reasons a request can be refused, and the state after
reset. Rule R46 is the table of reset values.
-/

namespace Sys2Proof.Machine

/-- Memory: address and byte pairs. An address that is not listed holds 0 (R39, R46: flash, DRAM and the I/O cells start as zeros). The
canonical form is `Memory.wf` (Machine/Ops.lean). Flash and DRAM bytes stand at their own addresses, an I/O fallback cell's four bytes
at its place in the first image of the I/O segment (log entry 6). The pixel array is a list of the same form (log entry 7). -/
abbrev Memory := List Host.Cell

/-- "Five 1-bit flags: N, Z, C, V, T" (R24). -/
structure Flags where
  n : Bool
  z : Bool
  c : Bool
  v : Bool
  t : Bool
  deriving DecidableEq, Repr

/-- The interrupt controller: MASK, PRIO and STATUS; ACK holds nothing (R40, R405). -/
structure Intc where
  mask : Word
  prio : Word
  status : Word
  deriving DecidableEq, Repr

/-- One timer channel: COUNT, CTRL, CMP, the two bits of STAT, and the accumulator cyclesUntilTick (R41, R441 to R445). -/
structure TimerChannel where
  count : Word
  ctrl : Word
  cmp : Word
  compareHit : Bool
  overflow : Bool
  cyclesUntilTick : Nat
  deriving DecidableEq, Repr

/-- "Three independent channels" (R41). -/
structure TimerBlock where
  ch0 : TimerChannel
  ch1 : TimerChannel
  ch2 : TimerChannel
  deriving DecidableEq, Repr

/-- The UART: CTRL, STATUS, BAUD, the receive queue, RXREG, and the bytes sent and not yet drained (R42, R456 to R463). -/
structure Uart where
  ctrl : Word
  status : Word
  baud : Word
  rxFifo : List Byte
  rxReg : Byte
  txLog : List Byte
  deriving DecidableEq, Repr

/-- The VDU: its four 16-bit registers, three error counters and the output pixel array, byte 4 * i + k being component k (R, G, B, A) of pixel i
(R43, R471 to R475). -/
structure Vdu where
  ctrl : Half
  status : Half
  fbAddrHigh : Half
  fbAddrLow : Half
  boundsErrors : Nat
  segmentErrors : Nat
  formatErrors : Nat
  pixels : Memory
  deriving DecidableEq, Repr

/-- The engine's modes (R44, R501). -/
inductive EngineMode where
  | stopped
  | loading
  | paused
  | running
  | error
  deriving DecidableEq, Repr

/-- Everything the spec gives the machine (spec/10_state.md R20 to R44). -/
structure State where
  /-- x[0..31] (R20) -/
  regs : Vector Word 32
  /-- pc (R22, R23) -/
  pc : Word
  /-- N, Z, C, V, T; sr0 is their packed mirror and has no storage (R24, R27) -/
  flags : Flags
  /-- sr1..sr31, sr[i] at index i - 1 (R27) -/
  sysRegs : Vector Word 31
  /-- cr0..cr31 (R28 to R34) -/
  ctlRegs : Vector Word 32
  /-- CEL (R35) -/
  cel : Word
  /-- CEH (R35) -/
  ceh : Word
  /-- cycles (R36) -/
  cycles : Nat
  /-- instret (R36) -/
  instret : Nat
  /-- halted (R37) -/
  halted : Bool
  /-- flash, DRAM and the I/O fallback cells (R39) -/
  mem : Memory
  /-- unmappedCount (R38, R63) -/
  unmappedCount : Nat
  /-- the interrupt controller (R40) -/
  intc : Intc
  /-- the timer block (R41) -/
  timers : TimerBlock
  /-- the UART (R42) -/
  uart : Uart
  /-- the VDU (R43) -/
  vdu : Vdu
  /-- the engine's mode (R44, R501) -/
  mode : EngineMode
  /-- frameCounter (R44) -/
  frameCounter : Nat
  /-- sliceRemaining, an integer (R44, R506) -/
  sliceRemaining : Int
  /-- cyclesRemaining, which "lives only inside one frame": none between frames (R44, R505) -/
  cyclesRemaining : Option Int
  /-- the host-owned breakpoint set (R44, R515) -/
  breakpoints : List Word
  deriving DecidableEq, Repr

/-- Why the machine could stop with a fault. There is NO constructor: every architectural error enters the exception flow, every memory access
is total, and "a step never fails for an architectural reason" (R62, R121, R520). Nothing raises a fault; safe. -/
inductive Fault where
  deriving DecidableEq, Repr

/-- Why the model can decline. -/
inductive Refusal where
  /-- An instruction without a meaning in the model. No arm of `exec` answers with it: every row of the opcode table has its meaning. Safe. -/
  | notModelled (mnemonic : String)
  /-- Raised by a host request made in the middle of a frame, where the spec places no host operation (R508, R517 to R519; log entry 3). Never by
  `step`. Safe: the host waits for the frame to end. -/
  | insideFrame
  /-- Raised by a host request to set a watchpoint, which the spec names and gives no behaviour (R515, U50; log entry 9). Never by `step`. Safe. -/
  | watchpointUnspecified
  deriving DecidableEq, Repr

/-- What a step, an instruction or a host operation answers. -/
abbrev Result := Host.Outcome State Fault Refusal

/-- A timer channel at reset: all five items 0 (R41, R46). -/
def TimerChannel.reset : TimerChannel :=
  { count := 0#32, ctrl := 0#32, cmp := 0#32, compareHit := false, overflow := false, cyclesUntilTick := 0 }

/-- The UART at reset: STATUS = 0x90, "TX-empty | TX-idle"; the rest 0 and empty (R42, R46). -/
def Uart.reset : Uart :=
  { ctrl := 0#32, status := 0x90#32, baud := 0#32, rxFifo := [], rxReg := 0#8, txLog := [] }

/-- The VDU at reset: FB_ADDR = 0xA0000000, the rest 0 (R43, R46). -/
def Vdu.reset : Vdu :=
  { ctrl := 0#16, status := 0#16, fbAddrHigh := 0xA000#16, fbAddrLow := 0#16, boundsErrors := 0, segmentErrors := 0,
    formatErrors := 0, pixels := [] }

/-- The machine right after reset (R46, R540, R541, R542): every item of R46 at its value, mode PAUSED, flash as construction leaves it (log
entry 5 for the two engine items R46 does not list). -/
def State.reset : State :=
  { regs := Vector.replicate 32 0#32
    pc := Config.entryPcDefault
    flags := { n := false, z := false, c := false, v := false, t := false }
    sysRegs := Vector.replicate 31 0#32
    ctlRegs := Vector.replicate 32 0#32
    cel := 0#32
    ceh := 0#32
    cycles := 0
    instret := 0
    halted := false
    mem := []
    unmappedCount := 0
    intc := { mask := 0#32, prio := 0#32, status := 0#32 }
    timers := { ch0 := TimerChannel.reset, ch1 := TimerChannel.reset, ch2 := TimerChannel.reset }
    uart := Uart.reset
    vdu := Vdu.reset
    mode := .paused
    frameCounter := 0
    sliceRemaining := Config.cyclesPerSlice
    cyclesRemaining := none
    breakpoints := [] }

/-- The machine as constructed at power-on: reset, but for the mode STOPPED (R44, R540). -/
def State.construction : State := { State.reset with mode := .stopped }

end Sys2Proof.Machine
end

