-- ==== Sys2Proof/Machine/Flags.lean ====
section
/-!
DEFINITION. The flags: the sr0 image (spec/10_state.md R26), the condition codes (R25), and every flag computation of
spec/40_alu.md: AddF (R141), SubF (R142), SetNZ (R143).
-/

namespace Sys2Proof.Machine

/-- `pack()` = (N << 31) | (Z << 30) | (C << 29) | (V << 28) | T (R26). -/
def Flags.pack (f : Flags) : Word :=
  place 32 (BitVec.ofBool f.n) 31 ||| place 32 (BitVec.ofBool f.z) 30 ||| place 32 (BitVec.ofBool f.c) 29
    ||| place 32 (BitVec.ofBool f.v) 28 ||| place 32 (BitVec.ofBool f.t) 0

/-- `unpack(v)`: bits 31, 30, 29, 28 and 0; "bits 27..1 of v are discarded" (R26). -/
def Flags.unpack (v : Word) : Flags :=
  { n := v.getLsbD 31, z := v.getLsbD 30, c := v.getLsbD 29, v := v.getLsbD 28, t := v.getLsbD 0 }

/-- `cond(cc)`, the table of R25. -/
def condHolds (c : Cond) (f : Flags) : Bool :=
  match c with
  | .cs => f.c
  | .cc => !f.c
  | .hi => f.c && !f.z
  | .ls => !f.c || f.z
  | .eq => f.z
  | .ne => !f.z
  | .gt => (f.n == f.v) && !f.z
  | .le => (f.n != f.v) || f.z
  | .ge => f.n == f.v
  | .lt => f.n != f.v
  | .mi => f.n
  | .pl => !f.n
  | .vs => f.v
  | .vc => !f.v
  | .t => f.t
  | .al => true

/-- What AddF and SubF answer: the result, the carry out and the overflow (R141, R142). -/
structure Arith where
  value : Word
  carry : Bool
  overflow : Bool
  deriving DecidableEq, Repr

/-- `AddF(a, b, cin)`: the carry is that of the exact sum a + b + cin, and V is formed with the register operand b (R141). -/
def addF (a b : Word) (cin : Bool) : Arith :=
  let r := a + b + place 32 (BitVec.ofBool cin) 0
  { value := r
    carry := decide (2 ^ 32 ≤ a.toNat + b.toNat + cin.toNat)
    overflow := (~~~(a ^^^ b) &&& (a ^^^ r)).getLsbD 31 }

/-- `SubF(a, b, borrow)`: C means "no borrow" and compares a with the exact b + borrow (R142). -/
def subF (a b : Word) (borrow : Bool) : Arith :=
  let r := a - b - place 32 (BitVec.ofBool borrow) 0
  { value := r
    carry := decide (b.toNat + borrow.toNat ≤ a.toNat)
    overflow := ((a ^^^ b) &&& ~~~(r ^^^ b)).getLsbD 31 }

/-- `SetNZ(r)`: "N = result[31]. Z = (result == 0)" (R143). -/
def Flags.setNZ (f : Flags) (r : Word) : Flags := { f with n := r.getLsbD 31, z := r == 0#32 }

/-- N, Z, C and V of an addition, subtraction or compare (R143). -/
def Flags.setNZCV (f : Flags) (r : Arith) : Flags := { f.setNZ r.value with c := r.carry, v := r.overflow }

/-- N, Z and C of a rotate through C (R143). -/
def Flags.setNZC (f : Flags) (r : Word) (c : Bool) : Flags := { f.setNZ r with c := c }

/-- T and Z of a bit test: "BITTST sets T = (a & bitmask) != 0 and Z = !T" (R157, R345). -/
def Flags.setBitTest (f : Flags) (set : Bool) : Flags := { f with t := set, z := !set }

/-- "set T = (condition(cond) ? 1 : 0)" on the flags given (R149, R246, R319). -/
def Flags.setT (f : Flags) (c : Cond) : Flags := { f with t := condHolds c f }

end Sys2Proof.Machine
end

