-- ==== Sys2Proof/Machine/Operands.lean ====
section
/-!
DEFINITION. How each operand is formed: immediates (spec/30_encoding.md R114), bit masks and shift counts (spec/40_alu.md sections 5
and 6), the shifts and rotates themselves, branch targets (R105, R107, R337, R338) and the fall-through address (R122, R354).
-/

namespace Sys2Proof.Machine

/-- An N-bit immediate sign-extended to 32 bits, `sext_N` (R7, R114). -/
def sext {n : Nat} (v : BitVec n) : Word := v.signExtend 32

/-- An N-bit immediate zero-extended to 32 bits, `zext_N` (R7, R114). -/
def zext {n : Nat} (v : BitVec n) : Word := v.setWidth 32

/-- The operand of the I-form with OP 0x05: imm16 << 16 (R104, R114). -/
def immShifted (imm : BitVec 16) : Word := zext imm <<< 16

/-- mask = 1 << bit, the bit number being the field itself (R155 to R158, R343 to R346). -/
def bitMask (bit : BitVec 5) : Word := 1#32 <<< bit.toNat

/-- The count of a register shift: "operand masked to 5 bits" (R159 to R165). -/
def shiftCount (b : Word) : Nat := (b &&& 0x1F#32).toNat

/-- SLL: "(x[rA] << n) mod 2^32" (R159, R166). -/
def shiftLeft (a : Word) (n : Nat) : Word := a <<< n

/-- SRL: zero fill (R160, R167). -/
def shiftRight (a : Word) (n : Nat) : Word := a >>> n

/-- SRA: the vacated high bits are filled with bit 31 (R161, R168). -/
def shiftRightArith (a : Word) (n : Nat) : Word := a.sshiftRight n

/-- ROR: ((a >> n) | (a << (32 - n))) mod 2^32 for n > 0, a for n = 0 (R162, R169). -/
def rotRight (a : Word) (n : Nat) : Word := if n = 0 then a else (a >>> n) ||| (a <<< (32 - n))

/-- ROL: ((a << n) | (a >> (32 - n))) mod 2^32 for n > 0, a for n = 0 (R164, R171). -/
def rotLeft (a : Word) (n : Nat) : Word := if n = 0 then a else (a <<< n) ||| (a >>> (32 - n))

/-- `RorC(a, n, c)`: n times (a, c) <- ((c << 31) | (a >> 1), a[0]) (spec/40_alu.md section 6, R163, R170). -/
def rotRightC : Nat → Word → Bool → Word × Bool
  | 0, a, c => (a, c)
  | n + 1, a, c => rotRightC n (place 32 (BitVec.ofBool c) 31 ||| (a >>> 1)) (a.getLsbD 0)

/-- `RolC(a, n, c)`: n times (a, c) <- (((a << 1) mod 2^32) | c, a[31]) (spec/40_alu.md section 6, R165, R172). -/
def rotLeftC : Nat → Word → Bool → Word × Bool
  | 0, a, c => (a, c)
  | n + 1, a, c => rotLeftC n ((a <<< 1) ||| place 32 (BitVec.ofBool c) 0) (a.getLsbD 31)

/-- The register after rD, modulo 32: the second register of `mfce` and `mtce` with selector 3 (R224, R225). -/
def nextReg (r : Reg) : Reg := r + 1#5

/-- The constant of `addei!`: k = 1 << imm5[3:0] (R339). -/
def addeiConst (imm : BitVec 5) : Word := 1#32 <<< (imm.extractLsb' 0 4).toNat

/-- The offset of the stack-pointer-relative forms: imm5 unsigned, scaled by the access width in bytes (R347 to R352). -/
def spOffset (imm : BitVec 5) (bytes : Nat) : Word := zext imm * BitVec.ofNat 32 bytes

/-- The J-form's target: (pc & 0xFE000000) | (disp24 << 1) (R105, R240). -/
def jumpTarget (pc : Word) (disp : BitVec 24) : Word := (pc &&& 0xFE000000#32) ||| (zext disp <<< 1)

/-- The B-form's target: (pc + (sext_22(disp22) << 1)) mod 2^32 (R107, R242). -/
def branchTarget (pc : Word) (disp : BitVec 22) : Word := pc + (sext disp <<< 1)

/-- The target of `j!` and `jl!`: (pc & 0xFFFFF000) | (disp11 << 1) (R337). -/
def jumpTarget16 (pc : Word) (disp : BitVec 11) : Word := (pc &&& 0xFFFFF000#32) ||| (zext disp <<< 1)

/-- The target of `b{cc}!`: (pc + (sext_8(disp8) << 1)) mod 2^32 (R338). -/
def branchTarget16 (pc : Word) (disp : BitVec 8) : Word := pc + (sext disp <<< 1)

/-- The fall-through address of a 32-bit instruction: pc + 4, wrapping (R22, R122). -/
def next32 (pc : Word) : Word := pc + 4#32

/-- The fall-through address of a half, `next`: pc + 2 in 16-bit single mode, (pc & 0xFFFFFFFC) + 4 in parallel mode (R122, R354). -/
def next16 (m : SlotMode) (pc : Word) : Word :=
  match m with
  | .single => pc + 2#32
  | .parallel => (pc &&& 0xFFFFFFFC#32) + 4#32

end Sys2Proof.Machine
end

