-- ==== Sys2Proof/Machine/Ops.lean ====
section
/-!
DEFINITION. The named operations the meanings are written over: registers, control transfer, bytes of memory, taking an exception
(spec/60_exceptions.md R401), returning from one (R403), and the interrupt controller's `trigger` (R406).
-/

namespace Sys2Proof.Machine

/-! ## Registers -/

/-- x[i] (R7, R20). No register is hard-wired. -/
def State.x (s : State) (i : Reg) : Word := s.regs[i.toNat]

/-- x[i] <- v (R7, R20). -/
def State.setX (s : State) (i : Reg) (v : Word) : State := { s with regs := s.regs.set i.toNat v }

/-- cr[i] (R28). -/
def State.cr (s : State) (i : Reg) : Word := s.ctlRegs[i.toNat]

/-- cr[i] <- v, every bit of every control register (R28). -/
def State.setCr (s : State) (i : Reg) (v : Word) : State := { s with ctlRegs := s.ctlRegs.set i.toNat v }

/-- Where sr1..sr31 stand in the bank: index i - 1. -/
def srIndex (i : Reg) : Fin 31 := ⟨i.toNat - 1, by have := i.isLt; omega⟩

/-- sr[i]: sr0 is `pack()`, the others plain storage (R27). -/
def State.sr (s : State) (i : Reg) : Word := if i = 0#5 then s.flags.pack else s.sysRegs[srIndex i]

/-- sr[i] <- v: a write of sr0 performs `unpack(v)` (R27). -/
def State.setSr (s : State) (i : Reg) (v : Word) : State :=
  if i = 0#5 then { s with flags := Flags.unpack v } else { s with sysRegs := s.sysRegs.set (srIndex i) v }

/-- The five flags, all at once. -/
def State.setFlags (s : State) (f : Flags) : State := { s with flags := f }

/-- CEL and CEH (R35). -/
def State.setCe (s : State) (lo hi : Word) : State := { s with cel := lo, ceh := hi }

/-- pc <- target: a control transfer (R7, R248). -/
def State.goto (s : State) (target : Word) : State := { s with pc := target }

/-- The advance of a 32-bit instruction (R22, R122). -/
def State.advance32 (s : State) : State := s.goto (next32 s.pc)

/-- The advance of a half (R354). -/
def State.advance16 (m : SlotMode) (s : State) : State := s.goto (next16 m s.pc)

/-- A link form writes the fall-through address to r3 (R21, R248). -/
def State.link (s : State) (ret : Word) : State := s.setX Config.linkReg ret

/-- The counters of a completed step: 4 cycles, 1 instruction (R36, R123). -/
def State.countStep (s : State) : State :=
  { s with cycles := s.cycles + Config.cyclesPerInstruction, instret := s.instret + 1 }

/-- unmappedCount += 1 (R63). -/
def State.countUnmapped (s : State) : State := { s with unmappedCount := s.unmappedCount + 1 }

/-- The bytes of storage. -/
def State.setMem (s : State) (m : Memory) : State := { s with mem := m }

/-- The UART. -/
def State.setUart (s : State) (u : Uart) : State := { s with uart := u }

/-- The interrupt controller. -/
def State.setIntc (s : State) (i : Intc) : State := { s with intc := i }

/-- The timer block. -/
def State.setTimers (s : State) (t : TimerBlock) : State := { s with timers := t }

/-- The VDU. -/
def State.setVdu (s : State) (v : Vdu) : State := { s with vdu := v }

/-- What follows a step that answered a next state. -/
def andThen (r : Result) (f : State → Result) : Result :=
  match r with
  | .next s => f s
  | .fault e => .fault e
  | .refused e => .refused e

/-! ## Bytes of memory -/

/-- What an unlisted address reads as: 0, the spec's reset contents of flash, DRAM and the I/O cells (R39, R46). -/
def Memory.fill : Byte := 0#8

/-- The canonical form: addresses strictly rising, and no entry equal to what an unlisted address reads as. -/
abbrev Memory.wf (m : Memory) : Prop := List.Pairwise (fun a b => a.1 < b.1) m ∧ ∀ c ∈ m, c.2 ≠ Memory.fill

/-- The byte at an address. -/
def Memory.read : Memory → Nat → Byte
  | [], _ => Memory.fill
  | (k, b) :: rest, a => if k = a then b else Memory.read rest a

/-- An entry for (a, v) in front of a list, unless v is what an unlisted address reads as. -/
def Memory.entry (a : Nat) (v : Byte) (rest : Memory) : Memory := if v = Memory.fill then rest else (a, v) :: rest

/-- The byte at an address becomes v; the canonical form is kept. -/
def Memory.write : Memory → Nat → Byte → Memory
  | [], a, v => Memory.entry a v []
  | (k, b) :: rest, a, v =>
    if a < k then Memory.entry a v ((k, b) :: rest)
    else if k = a then Memory.entry a v rest
    else (k, b) :: Memory.write rest a v

/-- The n bytes from an address as a little-endian number, zero-extended (R65). -/
def Memory.readLE (m : Memory) (a : Nat) : Nat → Word
  | 0 => 0#32
  | n + 1 => Memory.readLE m a n ||| place 32 (Memory.read m (a + n)) (8 * n)

/-- The low n bytes of v from an address up, "the byte at the lowest address ... is its least significant byte" (R65). -/
def Memory.writeLE (m : Memory) (a : Nat) (v : Word) : Nat → Memory
  | 0 => m
  | n + 1 => (Memory.writeLE m a v n).write (a + n) (v.extractLsb' (8 * n) 8)

/-! ## Exceptions and interrupts -/

/-- Exception entry, `Enter(c)`: the six steps of R401, in their order. There is one set of save registers and no nesting level (R404); the vector table
is at cr3, four bytes a cause (R415). -/
def State.enter (s : State) (c : Cause) : State :=
  let s := s.setCr 1#5 s.flags.pack
  let s := s.setCr 2#5 ((s.cr 2#5 &&& 0xFF03FFFF#32) ||| place 32 c 18)
  let s := s.setCr 5#5 s.pc
  let s := s.setCr 0#5 (s.cr 0#5 &&& 0xFFFFFFFE#32)
  s.goto (s.cr 3#5 + 4#32 * zext c)

/-- `raise E(c)`: the instruction is abandoned without its effects, and the step's advance is suppressed (R7, R402). -/
def raise (c : Cause) (s : State) : Result := .next (s.enter c)

/-- The return from an exception: unpack(cr1), pc <- cr5, "Nothing else" (R295, R403). -/
def State.returnFromException (s : State) : State := (s.setFlags (Flags.unpack (s.cr 1#5))).goto (s.cr 5#5)

/-- IE = cr0 bit 0, the "global interrupt enable" (R29, R407). -/
def State.ie (s : State) : Bool := (s.cr 0#5).getLsbD 0

/-- The cause of interrupt line n is n (R400). -/
def lineCause (n : BitVec 5) : Cause := n.setWidth 6

/-- `trigger(n)`: latch the line; if MASK bit n and IE are both 1, enter the CPU at once (R406, R407). -/
def State.trigger (s : State) (n : BitVec 5) : State :=
  let s := s.setIntc { s.intc with status := s.intc.status ||| (1#32 <<< n.toNat) }
  if s.intc.mask.getLsbD n.toNat && s.ie then s.enter (lineCause n) else s

end Sys2Proof.Machine
end

