-- ==== Sys2Proof/Machine/Devices.lean ====
section
/-!
DEFINITION. The peripherals: what a read and a write of each register word does (spec/60_exceptions.md R405, spec/61_devices.md R441 to R444,
R456 to R462, R471 to R474), the timer block's `tick` (R446, R447), the host operations of the UART (R461, R463), and the VDU's
`render` (R480, R481).
-/

namespace Sys2Proof.Machine

/-! ## Interrupt controller -/

/-- A write of v to ACK clears the STATUS bits set in v (R405). -/
def Intc.ack (i : Intc) (v : Word) : Intc := { i with status := i.status &&& ~~~v }

/-! ## Timer block -/

/-- The three channels. -/
inductive ChannelId where
  | ch0
  | ch1
  | ch2
  deriving DecidableEq, Repr

/-- The four registers of a channel (R440). -/
inductive TimerReg where
  | count
  | ctrl
  | cmp
  | stat
  deriving DecidableEq, Repr

/-- A channel of the block. -/
def TimerBlock.get (t : TimerBlock) : ChannelId → TimerChannel
  | .ch0 => t.ch0
  | .ch1 => t.ch1
  | .ch2 => t.ch2

/-- The block with one channel replaced. -/
def TimerBlock.set (t : TimerBlock) (k : ChannelId) (c : TimerChannel) : TimerBlock :=
  match k with
  | .ch0 => { t with ch0 := c }
  | .ch1 => { t with ch1 := c }
  | .ch2 => { t with ch2 := c }

/-- CTRL bit 0 (R442). -/
def TimerChannel.enabled (c : TimerChannel) : Bool := c.ctrl.getLsbD 0

/-- CTRL bit 1 (R442). -/
def TimerChannel.countDown (c : TimerChannel) : Bool := c.ctrl.getLsbD 1

/-- CTRL bit 2 (R442). -/
def TimerChannel.autoRepeat (c : TimerChannel) : Bool := c.ctrl.getLsbD 2

/-- CTRL bit 3 (R442). -/
def TimerChannel.irqEnable (c : TimerChannel) : Bool := c.ctrl.getLsbD 3

/-- "each timer tick = 2^s engine cycles", s = CTRL[7:5] (R442). -/
def TimerChannel.period (c : TimerChannel) : Nat := 2 ^ (c.ctrl.extractLsb' 5 3).toNat

/-- CTRL bit 0 cleared by hardware (R442). -/
def TimerChannel.disable (c : TimerChannel) : TimerChannel := { c with ctrl := c.ctrl &&& ~~~1#32 }

/-- A read of a channel's register; STAT = (overflow << 1) | compare-hit (R441 to R444). -/
def TimerChannel.read (c : TimerChannel) : TimerReg → Word
  | .count => c.count
  | .ctrl => c.ctrl
  | .cmp => c.cmp
  | .stat => place 32 (BitVec.ofBool c.overflow) 1 ||| place 32 (BitVec.ofBool c.compareHit) 0

/-- A write of a channel's register; STAT: "if v[7] = 1 then both b0 and b1 are cleared; otherwise the write has no effect" (R441 to R444).
No write changes cyclesUntilTick. -/
def TimerChannel.write (c : TimerChannel) (r : TimerReg) (v : Word) : TimerChannel :=
  match r with
  | .count => { c with count := v }
  | .ctrl => { c with ctrl := v }
  | .cmp => { c with cmp := v }
  | .stat => if v.getLsbD 7 then { c with compareHit := false, overflow := false } else c

/-- The arithmetic of one logical tick (R447 step 1). -/
def TimerChannel.advance (c : TimerChannel) : TimerChannel :=
  if c.countDown then
    if c.count = 0#32 then
      let c := { c with overflow := true }
      if c.autoRepeat then { c with count := c.cmp } else c.disable
    else { c with count := c.count - 1#32 }
  else
    let n := c.count + 1#32
    { c with count := n, overflow := c.overflow || n == 0#32 }

/-- The compare check of one logical tick, "always performed after step 1": the channel, and whether it asserts the timer IRQ (R447 step 2). -/
def TimerChannel.check (c : TimerChannel) : TimerChannel × Bool :=
  if c.count = c.cmp then
    let hit := { c with compareHit := true }
    (if c.autoRepeat then hit else hit.disable, c.irqEnable)
  else (c, false)

/-- `Tick(k)` on the channel alone: "arithmetic first, then compare check" (R447). -/
def TimerChannel.tick (c : TimerChannel) : TimerChannel × Bool := c.advance.check

/-- `Tick(k)` in the machine: a compare hit with irq-enable calls trigger(5) (R447). -/
def State.tickChannel (s : State) (k : ChannelId) : State :=
  let r := (s.timers.get k).tick
  let s := s.setTimers (s.timers.set k r.1)
  if r.2 then s.trigger Config.irqTimer else s

/-- The while loop of R446 for channel k with period p: at most `fuel` ticks, which is enough when fuel is acc / p. When a tick has cleared
enable, the accumulator becomes 0 and the loop ends. -/
def State.runChannel (k : ChannelId) (p : Nat) : Nat → State → State
  | 0, s => s
  | fuel + 1, s =>
    let c := s.timers.get k
    if c.enabled && decide (p ≤ c.cyclesUntilTick) then
      let s := s.setTimers (s.timers.set k { c with cyclesUntilTick := c.cyclesUntilTick - p })
      let s := s.tickChannel k
      let c := s.timers.get k
      if c.enabled then State.runChannel k p fuel s
      else s.setTimers (s.timers.set k { c with cyclesUntilTick := 0 })
    else s

/-- One channel's share of `tick(N)`: "A disabled channel is skipped entirely" (R446). -/
def State.feedChannel (s : State) (k : ChannelId) (n : Nat) : State :=
  let c := s.timers.get k
  if c.enabled then
    let acc := c.cyclesUntilTick + n
    let s := s.setTimers (s.timers.set k { c with cyclesUntilTick := acc })
    State.runChannel k c.period (acc / c.period) s
  else s

/-- `tick(N)`: channels 0, 1, 2, each completely before the next (R446). -/
def State.tick (s : State) (n : Nat) : State := ((s.feedChannel .ch0 n).feedChannel .ch1 n).feedChannel .ch2 n

/-! ## UART -/

/-- STATUS bit 6, RX-ready (R459). -/
def Uart.rxReadyMask : Word := 0x40#32

/-- The head of the receive queue, 0 when it is empty: what RXREG holds (R461, R462). -/
def Uart.head : List Byte → Byte
  | [] => 0#8
  | b :: _ => b

/-- `enqueueRx(b)`: append to the queue, RXREG <- head, RX-ready <- 1 (R461). -/
def Uart.enqueueRx (u : Uart) (b : Byte) : Uart :=
  let q := u.rxFifo ++ [b]
  { u with rxFifo := q, rxReg := Uart.head q, status := u.status ||| Uart.rxReadyMask }

/-- A read of the DATA word: the head byte, consumed; 0 and no change when the queue is empty (R462). -/
def Uart.readData (u : Uart) : Word × Uart :=
  match u.rxFifo with
  | [] => (0#32, u)
  | b :: rest =>
    (zext b,
      { u with
        rxFifo := rest
        rxReg := Uart.head rest
        status := if rest.isEmpty then u.status &&& ~~~Uart.rxReadyMask else u.status })

/-- A write of the DATA word "transmits the low byte" (R457). -/
def Uart.transmit (u : Uart) (v : Word) : Uart := { u with txLog := u.txLog ++ [v.extractLsb' 0 8] }

/-! ## VDU -/

/-- A pixel of the output array: R, G, B, A (R475). -/
structure Pixel where
  r : Byte
  g : Byte
  b : Byte
  a : Byte
  deriving DecidableEq, Repr

/-- A 5-bit colour to 8 bits: floor((c * 255 + 15) / 31) (R481). -/
def scale5 (c : BitVec 5) : Byte := BitVec.ofNat 8 ((c.toNat * 255 + 15) / 31)

/-- A 6-bit colour to 8 bits: floor((g * 255 + 31) / 63) (R481). -/
def scale6 (c : BitVec 6) : Byte := BitVec.ofNat 8 ((c.toNat * 255 + 31) / 63)

/-- bytes_per_source_pixel (R475). -/
def bytesPerPixel : Config.VduFormat → Nat
  | .rgba8888 => 4
  | .rgb565 => 2
  | .rgb555 => 2
  | .argb8888 => 4

/-- Pixel conversion; `p` is the source pixel read little-endian (R481). -/
def convertPixel (f : Config.VduFormat) (p : Word) : Pixel :=
  match f with
  | .rgba8888 => { r := p.extractLsb' 0 8, g := p.extractLsb' 8 8, b := p.extractLsb' 16 8, a := p.extractLsb' 24 8 }
  | .rgb565 =>
    { r := scale5 (p.extractLsb' 11 5), g := scale6 (p.extractLsb' 5 6), b := scale5 (p.extractLsb' 0 5), a := 0xFF#8 }
  | .rgb555 =>
    { r := scale5 (p.extractLsb' 10 5), g := scale5 (p.extractLsb' 5 5), b := scale5 (p.extractLsb' 0 5), a := 0xFF#8 }
  | .argb8888 => { r := p.extractLsb' 8 8, g := p.extractLsb' 16 8, b := p.extractLsb' 24 8, a := p.extractLsb' 0 8 }

/-- Output pixel i stored, its four bytes in the order R, G, B, A (R475, R480). -/
def setPixel (px : Memory) (i : Nat) (p : Pixel) : Memory :=
  (((px.write (4 * i) p.r).write (4 * i + 1) p.g).write (4 * i + 2) p.b).write (4 * i + 3) p.a

/-- Step 4 of `render` for the first n pixels: source pixel i is at `base + i * bytes` of storage (R480). -/
def scanOut (f : Config.VduFormat) (mem : Memory) (base : Nat) : Nat → Memory → Memory
  | 0, px => px
  | n + 1, px =>
    let b := bytesPerPixel f
    setPixel (scanOut f mem base n px) n (convertPixel f (mem.readLE (base + n * b) b))

/-- FB_ADDR = (HIGH << 16) | LOW (R474). -/
def Vdu.fbAddr (v : Vdu) : Word := v.fbAddrHigh ++ v.fbAddrLow

/-- STATUS bit 0, vblank, set by `render` (R473, R480 step 5). -/
def Vdu.setVblank (v : Vdu) : Vdu := { v with status := v.status ||| 1#16 }

/-- STATUS bit 0 cleared at the start of a frame (R482, R505 step 0). -/
def Vdu.clearVblank (v : Vdu) : Vdu := { v with status := v.status &&& ~~~1#16 }

/-- `render(miu)` for a geometry and a format (R480). The unknown-format failure of step 2 cannot occur: the format is one of the four (U42). -/
def State.renderWith (w h : Nat) (f : Config.VduFormat) (s : State) : State :=
  let fb := s.vdu.fbAddr
  let off := (fb.extractLsb' 0 24).toNat
  let need := w * h * bytesPerPixel f
  match Config.regionOf (fb.extractLsb' 24 8) with
  | none => s.setVdu { s.vdu with segmentErrors := s.vdu.segmentErrors + 1 }
  | some .mmio => s.setVdu { s.vdu with boundsErrors := s.vdu.boundsErrors + 1 }
  | some (.backing b) =>
    if off + need ≤ b.size then
      let px := scanOut f s.mem (b.base + off) (w * h) s.vdu.pixels
      (s.setVdu { s.vdu with pixels := px }.setVblank).trigger Config.irqVblank
    else s.setVdu { s.vdu with boundsErrors := s.vdu.boundsErrors + 1 }

/-- `render(miu)` of this machine's configuration (R475, R480). -/
def State.render (s : State) : State := s.renderWith Config.vduW Config.vduH Config.vduFormat

end Sys2Proof.Machine
end

