-- ==== Sys2Proof/Machine/Miu.lean ====
section
/-!
DEFINITION. The memory interface unit (spec/20_memory.md): the two region kinds, the I/O map, and the access primitives MemRead and
MemWrite (R75). Every access is total.
-/

namespace Sys2Proof.Machine

/-- The three widths of an access (R64, R77). -/
inductive Size where
  | byte
  | half
  | word
  deriving DecidableEq, Repr

/-- n in 1, 2, 4 (R75). -/
def Size.bytes : Size → Nat
  | .byte => 1
  | .half => 2
  | .word => 4

/-- segment = address >> 24 (R60). -/
def segmentOf (addr : Word) : BitVec 8 := addr.extractLsb' 24 8

/-- offset = address & 0x00FFFFFF (R60). -/
def offsetOf (addr : Word) : BitVec 24 := addr.extractLsb' 0 24

/-- "a 16-bit access uses offset & 0xFFFFFE, a 32-bit access uses offset & 0xFFFFFC, a byte access uses the offset as given" (R66). -/
def alignOffset (off : BitVec 24) : Size → BitVec 24
  | .byte => off
  | .half => off &&& 0xFFFFFE#24
  | .word => off &&& 0xFFFFFC#24

/-! ## Backing-array regions -/

/-- Where an access at an offset stands in storage; none when the aligned offset plus the width exceeds the size (R67). -/
def backingPlace (b : Config.Backing) (off : BitVec 24) (sz : Size) : Option Nat :=
  let o := (alignOffset off sz).toNat
  if o + sz.bytes ≤ b.size then some (b.base + o) else none

/-- A read of a backing-array region; beyond its size it is 0 (R65, R67). -/
def backingRead (b : Config.Backing) (m : Memory) (off : BitVec 24) (sz : Size) : Word :=
  match backingPlace b off sz with
  | some a => m.readLE a sz.bytes
  | none => 0#32

/-- Where a write of a backing-array region lands: nowhere when it is read-only or beyond the size (R67, R68). -/
def backingStorePlace (b : Config.Backing) (off : BitVec 24) (sz : Size) : Option Nat :=
  if b.readOnly then none else backingPlace b off sz

/-- A write of a backing-array region (R65, R67, R68). -/
def backingWrite (b : Config.Backing) (m : Memory) (off : BitVec 24) (sz : Size) (v : Word) : Memory :=
  match backingStorePlace b off sz with
  | some a => m.writeLE a v sz.bytes
  | none => m

/-! ## The MMIO region -/

/-- A word of the I/O image: a register of a peripheral, a word of a peripheral's range that holds none, or a fallback cell (R72 to R74). -/
inductive MmioWord where
  | intcMask
  | intcPrio
  | intcStatus
  | intcAck
  | timer (k : ChannelId) (r : TimerReg)
  | uartData
  | uartCtrl
  | uartStatus
  | uartBaud
  | vduCtrlStatus
  | vduFbAddr
  | unknown
  | cell (index : BitVec 16)
  deriving DecidableEq, Repr

/-- "uses word index (O >> 2) mod 0x10000" (R70). -/
def wordIndex (off : BitVec 24) : BitVec 16 := off.extractLsb' 2 16

/-- The I/O map, by word index (R74, R86): interrupt controller and timers at 0x8000..0x800B, UART at 0xC000..0xC007, VDU at 0x0000 and 0x0001.
The four words the interrupt controller and timer channel 0 both claim are the interrupt controller's (C3, D24). -/
def mmioWord (index : BitVec 16) : MmioWord :=
  match index with
  | 0x8000#16 => .intcMask
  | 0x8001#16 => .intcPrio
  | 0x8002#16 => .intcStatus
  | 0x8003#16 => .intcAck
  | 0x8004#16 => .timer .ch1 .count
  | 0x8005#16 => .timer .ch1 .ctrl
  | 0x8006#16 => .timer .ch1 .cmp
  | 0x8007#16 => .timer .ch1 .stat
  | 0x8008#16 => .timer .ch2 .count
  | 0x8009#16 => .timer .ch2 .ctrl
  | 0x800A#16 => .timer .ch2 .cmp
  | 0x800B#16 => .timer .ch2 .stat
  | 0xC000#16 => .uartData
  | 0xC001#16 => .unknown
  | 0xC002#16 => .uartCtrl
  | 0xC003#16 => .uartStatus
  | 0xC004#16 => .uartBaud
  | 0xC005#16 => .unknown
  | 0xC006#16 => .unknown
  | 0xC007#16 => .unknown
  | 0x0000#16 => .vduCtrlStatus
  | 0x0001#16 => .vduFbAddr
  | _ => .cell index

/-- Where a fallback cell's four bytes are kept (R72; log entry 6). -/
def cellAddress (index : BitVec 16) : Nat := Config.ioBase + 4 * index.toNat

/-- The reader of a word: its value, and the machine after the read's side effect, which only UART DATA has (R70, R78). -/
def mmioRead (w : MmioWord) (s : State) : Word × State :=
  match w with
  | .intcMask => (s.intc.mask, s)
  | .intcPrio => (s.intc.prio, s)
  | .intcStatus => (s.intc.status, s)
  | .intcAck => (0#32, s)
  | .timer k r => ((s.timers.get k).read r, s)
  | .uartData => let p := s.uart.readData; (p.1, s.setUart p.2)
  | .uartCtrl => (s.uart.ctrl, s)
  | .uartStatus => (s.uart.status, s)
  | .uartBaud => (s.uart.baud, s)
  | .vduCtrlStatus => (s.vdu.status ++ s.vdu.ctrl, s)
  | .vduFbAddr => (s.vdu.fbAddrLow ++ s.vdu.fbAddrHigh, s)
  | .unknown => (0#32, s)
  | .cell i => (s.mem.readLE (cellAddress i) 4, s)

/-- The writer of a word (R70, R405, R441 to R444, R456, R457, R471 to R474). -/
def mmioWrite (w : MmioWord) (v : Word) (s : State) : State :=
  match w with
  | .intcMask => s.setIntc { s.intc with mask := v }
  | .intcPrio => s.setIntc { s.intc with prio := v }
  | .intcStatus => s
  | .intcAck => s.setIntc (s.intc.ack v)
  | .timer k r => s.setTimers (s.timers.set k ((s.timers.get k).write r v))
  | .uartData => s.setUart (s.uart.transmit v)
  | .uartCtrl => s.setUart { s.uart with ctrl := v }
  | .uartStatus => s
  | .uartBaud => s.setUart { s.uart with baud := v }
  | .vduCtrlStatus => s.setVdu { s.vdu with ctrl := v.extractLsb' 0 16 }
  | .vduFbAddr => s.setVdu { s.vdu with fbAddrHigh := v.extractLsb' 0 16, fbAddrLow := v.extractLsb' 16 16 }
  | .unknown => s
  | .cell i => s.setMem (s.mem.writeLE (cellAddress i) v 4)

/-- How far up its word a sub-word access stands: 8 * (O & 3) for bytes, 8 * (O & 2) for halfwords, 0 for words (R66, R71). -/
def laneShift (off : BitVec 24) : Size → Nat
  | .byte => 8 * (off &&& 3#24).toNat
  | .half => 8 * (off &&& 2#24).toNat
  | .word => 0

/-- The low 8, 16 or 32 bits. -/
def sizeMask : Size → Word
  | .byte => 0xFF#32
  | .half => 0xFFFF#32
  | .word => 0xFFFFFFFF#32

/-- read8, read16, read32 of the MMIO region (R70, R71). -/
def mmioLoad (off : BitVec 24) (sz : Size) (s : State) : Word × State :=
  let p := mmioRead (mmioWord (wordIndex off)) s
  ((p.1 >>> laneShift off sz) &&& sizeMask sz, p.2)

/-- The old word with the addressed byte or halfword replaced (R71). -/
def mergeLane (old : Word) (off : BitVec 24) (sz : Size) (v : Word) : Word :=
  let sh := laneShift off sz
  (old &&& ~~~(sizeMask sz <<< sh)) ||| ((v &&& sizeMask sz) <<< sh)

/-- write8, write16, write32 of the MMIO region: a sub-word write obtains the old word through the reader, with its side effect (R71, D27). -/
def mmioStore (off : BitVec 24) (sz : Size) (v : Word) (s : State) : State :=
  let w := mmioWord (wordIndex off)
  match sz with
  | .word => mmioWrite w v s
  | .byte | .half =>
    let p := mmioRead w s
    mmioWrite w (mergeLane p.1 off sz v) p.2

/-- Where a store of the MMIO region lands in storage: only a fallback cell is storage; its word is written, and the bytes of it that the store
does not address are written back as they were (R71, R72). -/
def mmioStorePlace (off : BitVec 24) (sz : Size) : Option Nat :=
  match mmioWord (wordIndex off) with
  | .cell i => some (cellAddress i + laneShift off sz / 8)
  | _ => none

/-! ## The access primitives -/

/-- `MemRead(addr, n)` (R75): the value, zero-extended, and the machine after the read. An unmapped segment reads 0 and counts (R63). -/
def State.memRead (s : State) (addr : Word) (sz : Size) : Word × State :=
  match Config.regionOf (segmentOf addr) with
  | none => (0#32, s.countUnmapped)
  | some (.backing b) => (backingRead b s.mem (offsetOf addr) sz, s)
  | some .mmio => mmioLoad (offsetOf addr) sz s

/-- `MemWrite(addr, n, v)` (R75): an unmapped segment drops the write and counts (R63). -/
def State.memWrite (s : State) (addr : Word) (sz : Size) (v : Word) : State :=
  match Config.regionOf (segmentOf addr) with
  | none => s.countUnmapped
  | some (.backing b) => s.setMem (backingWrite b s.mem (offsetOf addr) sz v)
  | some .mmio => mmioStore (offsetOf addr) sz v s

/-- The address of storage a store of this width to this address lands at; none where it changes no byte of storage: an unmapped segment, flash,
an offset beyond the region, a device register (R63, R67, R68, R72). -/
def storePlace (addr : Word) (sz : Size) : Option Nat :=
  match Config.regionOf (segmentOf addr) with
  | none => none
  | some (.backing b) => backingStorePlace b (offsetOf addr) sz
  | some .mmio => mmioStorePlace (offsetOf addr) sz

/-! ## Effective addresses -/

/-- ea = (x[rA] + sext(imm)) mod 2^32, "the displacement in bytes, never scaled" (R260). -/
def State.ea {n : Nat} (s : State) (ra : Reg) (imm : BitVec n) : Word := s.x ra + sext imm

/-- x[29] + the scaled offset of the 16-bit format 7 (R347 to R352). -/
def State.spEa (s : State) (imm : BitVec 5) (sz : Size) : Word := s.x Config.spReg + spOffset imm sz.bytes

/-- The instruction fetch: MemRead(pc, 4), "the little-endian word at pc & 0xFFFFFFFC" (R76, R100). -/
def State.fetch (s : State) : Word × State := s.memRead s.pc .word

end Sys2Proof.Machine
end

