-- ==== Sys2Proof/Machine/Alu.lean ====
section
/-!
DEFINITION. The SP-form instructions that compute a register: arithmetic, compare, logic, bit operations, shifts and rotates, extensions
(spec/40_alu.md R144 to R176), and what their results write.
-/

namespace Sys2Proof.Machine

/-! ## What a result writes (R143) -/

/-- x[rD] <- r; if CU = 1: SetNZ(r) (R143, second row). -/
def State.putLogic (s : State) (rd : Reg) (r : Word) (cu : Bool) : State :=
  (s.setFlags (if cu then s.flags.setNZ r else s.flags)).setX rd r

/-- x[rD] <- r; if CU = 1: SetNZ(r); C <- c; V <- v (R143, first row). -/
def State.putArith (s : State) (rd : Reg) (r : Arith) (cu : Bool) : State :=
  (s.setFlags (if cu then s.flags.setNZCV r else s.flags)).setX rd r.value

/-- x[rD] <- r; if CU = 1: SetNZ(r); C <- c (R143, third row). -/
def State.putCarry (s : State) (rd : Reg) (r : Word × Bool) (cu : Bool) : State :=
  (s.setFlags (if cu then s.flags.setNZC r.1 r.2 else s.flags)).setX rd r.1

/-- The end of a 32-bit instruction that neither wrote pc nor raised: the next state is one slot further (R22, R120). -/
def done32 (s : State) : Result := .next s.advance32


/-! ## Add, subtract, negate -/

/-- add: AddF(x[rA], x[rB], 0) (R144). -/
def execAdd (rd ra rb : Reg) (cu : Bool) (s : State) : Result :=
  done32 (s.putArith rd (addF (s.x ra) (s.x rb) false) cu)

/-- addc: AddF(x[rA], x[rB], C), "with C the flag before the instruction" (R145). -/
def execAddc (rd ra rb : Reg) (cu : Bool) (s : State) : Result :=
  done32 (s.putArith rd (addF (s.x ra) (s.x rb) s.flags.c) cu)

/-- sub: SubF(x[rA], x[rB], 0) (R146). -/
def execSub (rd ra rb : Reg) (cu : Bool) (s : State) : Result :=
  done32 (s.putArith rd (subF (s.x ra) (s.x rb) false) cu)

/-- subc: SubF(x[rA], x[rB], borrow), "borrow = (C == 0 ? 1 : 0)" (R147). -/
def execSubc (rd ra rb : Reg) (cu : Bool) (s : State) : Result :=
  done32 (s.putArith rd (subF (s.x ra) (s.x rb) (!s.flags.c)) cu)

/-- neg: "as SUB(0, a)", the operand being the rB field (R148). -/
def execNeg (rd rb : Reg) (cu : Bool) (s : State) : Result :=
  done32 (s.putArith rd (subF 0#32 (s.x rb) false) cu)

/-! ## Compare -/

/-- cmp: subtract, write N, Z, C, V, "then set T" by the condition on the flags just written (R149). -/
def execCmpCc (c : Cond) (ra rb : Reg) (s : State) : Result :=
  done32 (s.setFlags ((s.flags.setNZCV (subF (s.x ra) (s.x rb) false)).setT c))

/-- cmpz: SubF(x[rA], 0, 0) and T as for cmp (R150, D11). -/
def execCmpzCc (c : Cond) (ra : Reg) (s : State) : Result :=
  done32 (s.setFlags ((s.flags.setNZCV (subF (s.x ra) 0#32 false)).setT c))

/-! ## Logic -/

/-- and (R151). -/
def execAnd (rd ra rb : Reg) (cu : Bool) (s : State) : Result :=
  done32 (s.putLogic rd (s.x ra &&& s.x rb) cu)

/-- or (R152). -/
def execOr (rd ra rb : Reg) (cu : Bool) (s : State) : Result :=
  done32 (s.putLogic rd (s.x ra ||| s.x rb) cu)

/-- not: ~x[rA]; rB is ignored (R153). -/
def execNot (rd ra : Reg) (cu : Bool) (s : State) : Result :=
  done32 (s.putLogic rd (~~~(s.x ra)) cu)

/-- xor (R154). -/
def execXor (rd ra rb : Reg) (cu : Bool) (s : State) : Result :=
  done32 (s.putLogic rd (s.x ra ^^^ s.x rb) cu)

/-! ## Bit operations -/

/-- bitclr: x[rA] & ~mask (R155). -/
def execBitclr (rd ra : Reg) (bit : BitVec 5) (cu : Bool) (s : State) : Result :=
  done32 (s.putLogic rd (s.x ra &&& ~~~(bitMask bit)) cu)

/-- bitset: x[rA] | mask (R156). -/
def execBitset (rd ra : Reg) (bit : BitVec 5) (cu : Bool) (s : State) : Result :=
  done32 (s.putLogic rd (s.x ra ||| bitMask bit) cu)

/-- bittst: "sets T = (a & bitmask) != 0 and Z = !T"; no register (R157). -/
def execBittst (ra : Reg) (bit : BitVec 5) (s : State) : Result :=
  done32 (s.setFlags (s.flags.setBitTest (s.x ra &&& bitMask bit != 0#32)))

/-- bittgl: x[rA] ^ mask (R158). -/
def execBittgl (rd ra : Reg) (bit : BitVec 5) (cu : Bool) (s : State) : Result :=
  done32 (s.putLogic rd (s.x ra ^^^ bitMask bit) cu)

/-! ## Shifts and rotates by a register: n = x[rB] & 0x1F -/

/-- sll (R159). -/
def execSll (rd ra rb : Reg) (cu : Bool) (s : State) : Result :=
  done32 (s.putLogic rd (shiftLeft (s.x ra) (shiftCount (s.x rb))) cu)

/-- srl (R160). -/
def execSrl (rd ra rb : Reg) (cu : Bool) (s : State) : Result :=
  done32 (s.putLogic rd (shiftRight (s.x ra) (shiftCount (s.x rb))) cu)

/-- sra (R161). -/
def execSra (rd ra rb : Reg) (cu : Bool) (s : State) : Result :=
  done32 (s.putLogic rd (shiftRightArith (s.x ra) (shiftCount (s.x rb))) cu)

/-- ror (R162). -/
def execRor (rd ra rb : Reg) (cu : Bool) (s : State) : Result :=
  done32 (s.putLogic rd (rotRight (s.x ra) (shiftCount (s.x rb))) cu)

/-- rorc: the count and C enter a 33-bit rotation; C is written only if CU = 1 (R163). -/
def execRorc (rd ra rb : Reg) (cu : Bool) (s : State) : Result :=
  done32 (s.putCarry rd (rotRightC (shiftCount (s.x rb)) (s.x ra) s.flags.c) cu)

/-- rol (R164). -/
def execRol (rd ra rb : Reg) (cu : Bool) (s : State) : Result :=
  done32 (s.putLogic rd (rotLeft (s.x ra) (shiftCount (s.x rb))) cu)

/-- rolc: the count and C enter a 33-bit rotation; C is written only if CU = 1 (R165). -/
def execRolc (rd ra rb : Reg) (cu : Bool) (s : State) : Result :=
  done32 (s.putCarry rd (rotLeftC (shiftCount (s.x rb)) (s.x ra) s.flags.c) cu)

/-! ## Shifts and rotates by an immediate: n = imm5 -/

/-- slli (R166). -/
def execSlli (rd ra : Reg) (imm5 : BitVec 5) (cu : Bool) (s : State) : Result :=
  done32 (s.putLogic rd (shiftLeft (s.x ra) imm5.toNat) cu)

/-- srli (R167). -/
def execSrli (rd ra : Reg) (imm5 : BitVec 5) (cu : Bool) (s : State) : Result :=
  done32 (s.putLogic rd (shiftRight (s.x ra) imm5.toNat) cu)

/-- srai (R168). -/
def execSrai (rd ra : Reg) (imm5 : BitVec 5) (cu : Bool) (s : State) : Result :=
  done32 (s.putLogic rd (shiftRightArith (s.x ra) imm5.toNat) cu)

/-- rori (R169). -/
def execRori (rd ra : Reg) (imm5 : BitVec 5) (cu : Bool) (s : State) : Result :=
  done32 (s.putLogic rd (rotRight (s.x ra) imm5.toNat) cu)

/-- roric (R170). -/
def execRoric (rd ra : Reg) (imm5 : BitVec 5) (cu : Bool) (s : State) : Result :=
  done32 (s.putCarry rd (rotRightC imm5.toNat (s.x ra) s.flags.c) cu)

/-- roli (R171). -/
def execRoli (rd ra : Reg) (imm5 : BitVec 5) (cu : Bool) (s : State) : Result :=
  done32 (s.putLogic rd (rotLeft (s.x ra) imm5.toNat) cu)

/-- rolic (R172). -/
def execRolic (rd ra : Reg) (imm5 : BitVec 5) (cu : Bool) (s : State) : Result :=
  done32 (s.putCarry rd (rotLeftC imm5.toNat (s.x ra) s.flags.c) cu)

/-! ## Sign and zero extension -/

/-- extsb: sext_8(x[rA][7:0]) (R173). -/
def execExtsb (rd ra : Reg) (cu : Bool) (s : State) : Result :=
  done32 (s.putLogic rd (sext ((s.x ra).extractLsb' 0 8)) cu)

/-- extsh: sext_16(x[rA][15:0]) (R174). -/
def execExtsh (rd ra : Reg) (cu : Bool) (s : State) : Result :=
  done32 (s.putLogic rd (sext ((s.x ra).extractLsb' 0 16)) cu)

/-- extzb: x[rA] & 0xFF (R175). -/
def execExtzb (rd ra : Reg) (cu : Bool) (s : State) : Result :=
  done32 (s.putLogic rd (zext ((s.x ra).extractLsb' 0 8)) cu)

/-- extzh: x[rA] & 0xFFFF (R176). -/
def execExtzh (rd ra : Reg) (cu : Bool) (s : State) : Result :=
  done32 (s.putLogic rd (zext ((s.x ra).extractLsb' 0 16)) cu)

end Sys2Proof.Machine
end

