-- ==== Sys2Proof/Machine/Control.lean ====
section
/-!
DEFINITION. Jumps, branches and conditional operations of the 32-bit formats (spec/42_control.md). "There are no delay slots" (R248).
-/

namespace Sys2Proof.Machine

/-- A transfer on a condition: pc <- target when it holds, else the advance; the link form writes r3 "only when the transfer is taken", and the
target is formed from the state before r3 is written (R248). -/
def State.branch (s : State) (taken link : Bool) (target fallThrough : Word) : State :=
  if taken then (if link then s.link fallThrough else s).goto target else s.goto fallThrough

/-- j: pc <- (pc & 0xFE000000) | (disp24 << 1) (R240). -/
def execJ (disp24 : BitVec 24) (s : State) : Result :=
  .next (s.branch true false (jumpTarget s.pc disp24) (next32 s.pc))

/-- jl: x[3] <- pc + 4, then as j (R241). -/
def execJl (disp24 : BitVec 24) (s : State) : Result :=
  .next (s.branch true true (jumpTarget s.pc disp24) (next32 s.pc))

/-- b{cc}: if cond(cc): pc <- pc + (sext_22(disp22) << 1) (R242). -/
def execBCc (c : Cond) (disp22 : BitVec 22) (s : State) : Result :=
  .next (s.branch (condHolds c s.flags) false (branchTarget s.pc disp22) (next32 s.pc))

/-- b{cc}l: as b{cc}, with x[3] <- pc + 4 when taken (R243). -/
def execBCcL (c : Cond) (disp22 : BitVec 22) (s : State) : Result :=
  .next (s.branch (condHolds c s.flags) true (branchTarget s.pc disp22) (next32 s.pc))

/-- br{cc}: if cond(cc): pc <- x[rA], "not masked" (R244). -/
def execBrCc (c : Cond) (ra : Reg) (s : State) : Result :=
  .next (s.branch (condHolds c s.flags) false (s.x ra) (next32 s.pc))

/-- br{cc}l: t = x[rA]; x[3] <- pc + 4; pc <- t (R245). -/
def execBrCcL (c : Cond) (ra : Reg) (s : State) : Result :=
  .next (s.branch (condHolds c s.flags) true (s.x ra) (next32 s.pc))

/-- t{cc}: T <- (cond(cc) ? 1 : 0) (R246). -/
def execTCc (c : Cond) (s : State) : Result :=
  done32 (s.setFlags (s.flags.setT c))

/-- mv{cc}: if cond(cc): x[rD] <- x[rA] (R247). -/
def execMvCc (c : Cond) (rd ra : Reg) (s : State) : Result :=
  done32 (if condHolds c s.flags then s.setX rd (s.x ra) else s)

end Sys2Proof.Machine
end

