-- ==== Sys2Proof/Machine/LoadStore.lean ====
section
/-!
DEFINITION. Loads and stores of the 32-bit formats (spec/43_loadstore.md). No load or store writes a flag or raises an exception (R260).
-/

namespace Sys2Proof.Machine

/-- A loaded value extended to 32 bits: "sign-extend from 8 or 16 bits", or as MemRead gives it, zero-extended (R260). -/
def extendLoad (signed : Bool) (sz : Size) (v : Word) : Word :=
  if signed then
    match sz with
    | .byte => sext (v.extractLsb' 0 8)
    | .half => sext (v.extractLsb' 0 16)
    | .word => v
  else v

/-- A load from an address: x[rD] <- the extended value of MemRead (R260). -/
def State.load (s : State) (rd : Reg) (addr : Word) (sz : Size) (signed : Bool) : State :=
  let p := s.memRead addr sz
  p.2.setX rd (extendLoad signed sz p.1)

/-- A store to an address: MemWrite of x[rD] (R260). -/
def State.store (s : State) (rd : Reg) (addr : Word) (sz : Size) : State := s.memWrite addr sz (s.x rd)

/-- A load that also writes a base register: the base first, then rD, so that "the loaded value is written last and wins" (R269, R329, D17). -/
def State.loadUpdate (s : State) (rd ra : Reg) (addr base : Word) (sz : Size) (signed : Bool) : State :=
  let p := s.memRead addr sz
  (p.2.setX ra base).setX rd (extendLoad signed sz p.1)

/-- A store with write-back: MemWrite of the old x[rD], then x[rA] <- ea (R273). -/
def State.storeUpdate (s : State) (rd ra : Reg) (addr : Word) (sz : Size) : State :=
  (s.memWrite addr sz (s.x rd)).setX ra addr

/-! ## memory-form, ea = x[rA] + sext_15(imm15) -/

/-- lw (R261). -/
def execLw (rd ra : Reg) (imm15 : BitVec 15) (s : State) : Result :=
  done32 (s.load rd (s.ea ra imm15) .word false)

/-- lh (R262). -/
def execLh (rd ra : Reg) (imm15 : BitVec 15) (s : State) : Result :=
  done32 (s.load rd (s.ea ra imm15) .half true)

/-- lhu (R263). -/
def execLhu (rd ra : Reg) (imm15 : BitVec 15) (s : State) : Result :=
  done32 (s.load rd (s.ea ra imm15) .half false)

/-- lb (R264). -/
def execLb (rd ra : Reg) (imm15 : BitVec 15) (s : State) : Result :=
  done32 (s.load rd (s.ea ra imm15) .byte true)

/-- sw (R265). -/
def execSw (rd ra : Reg) (imm15 : BitVec 15) (s : State) : Result :=
  done32 (s.store rd (s.ea ra imm15) .word)

/-- sh (R266). -/
def execSh (rd ra : Reg) (imm15 : BitVec 15) (s : State) : Result :=
  done32 (s.store rd (s.ea ra imm15) .half)

/-- lbu (R267). -/
def execLbu (rd ra : Reg) (imm15 : BitVec 15) (s : State) : Result :=
  done32 (s.load rd (s.ea ra imm15) .byte false)

/-- sb (R268). -/
def execSb (rd ra : Reg) (imm15 : BitVec 15) (s : State) : Result :=
  done32 (s.store rd (s.ea ra imm15) .byte)

/-! ## RIX-form with write-back: x[rA] <- ea, "the unaligned sum, all 32 bits" -/

/-- lw.pre (R269). -/
def execLwPre (rd ra : Reg) (imm12 : BitVec 12) (s : State) : Result :=
  done32 (s.loadUpdate rd ra (s.ea ra imm12) (s.ea ra imm12) .word false)

/-- lh.pre (R270). -/
def execLhPre (rd ra : Reg) (imm12 : BitVec 12) (s : State) : Result :=
  done32 (s.loadUpdate rd ra (s.ea ra imm12) (s.ea ra imm12) .half true)

/-- lhu.pre (R271). -/
def execLhuPre (rd ra : Reg) (imm12 : BitVec 12) (s : State) : Result :=
  done32 (s.loadUpdate rd ra (s.ea ra imm12) (s.ea ra imm12) .half false)

/-- lb.pre (R272). -/
def execLbPre (rd ra : Reg) (imm12 : BitVec 12) (s : State) : Result :=
  done32 (s.loadUpdate rd ra (s.ea ra imm12) (s.ea ra imm12) .byte true)

/-- sw.pre (R273). -/
def execSwPre (rd ra : Reg) (imm12 : BitVec 12) (s : State) : Result :=
  done32 (s.storeUpdate rd ra (s.ea ra imm12) .word)

/-- sh.pre (R274). -/
def execShPre (rd ra : Reg) (imm12 : BitVec 12) (s : State) : Result :=
  done32 (s.storeUpdate rd ra (s.ea ra imm12) .half)

/-- lbu.pre (R275). -/
def execLbuPre (rd ra : Reg) (imm12 : BitVec 12) (s : State) : Result :=
  done32 (s.loadUpdate rd ra (s.ea ra imm12) (s.ea ra imm12) .byte false)

/-- sb.pre (R276). -/
def execSbPre (rd ra : Reg) (imm12 : BitVec 12) (s : State) : Result :=
  done32 (s.storeUpdate rd ra (s.ea ra imm12) .byte)

/-! ## RIX-form without write-back -/

/-- lw.rix (R277). -/
def execLwRix (rd ra : Reg) (imm12 : BitVec 12) (s : State) : Result :=
  done32 (s.load rd (s.ea ra imm12) .word false)

/-- lh.rix (R278). -/
def execLhRix (rd ra : Reg) (imm12 : BitVec 12) (s : State) : Result :=
  done32 (s.load rd (s.ea ra imm12) .half true)

/-- lhu.rix (R279). -/
def execLhuRix (rd ra : Reg) (imm12 : BitVec 12) (s : State) : Result :=
  done32 (s.load rd (s.ea ra imm12) .half false)

/-- lb.rix (R280). -/
def execLbRix (rd ra : Reg) (imm12 : BitVec 12) (s : State) : Result :=
  done32 (s.load rd (s.ea ra imm12) .byte true)

/-- sw.rix (R281). -/
def execSwRix (rd ra : Reg) (imm12 : BitVec 12) (s : State) : Result :=
  done32 (s.store rd (s.ea ra imm12) .word)

/-- sh.rix (R282). -/
def execShRix (rd ra : Reg) (imm12 : BitVec 12) (s : State) : Result :=
  done32 (s.store rd (s.ea ra imm12) .half)

/-- lbu.rix (R283). -/
def execLbuRix (rd ra : Reg) (imm12 : BitVec 12) (s : State) : Result :=
  done32 (s.load rd (s.ea ra imm12) .byte false)

/-- sb.rix (R284). -/
def execSbRix (rd ra : Reg) (imm12 : BitVec 12) (s : State) : Result :=
  done32 (s.store rd (s.ea ra imm12) .byte)

end Sys2Proof.Machine
end

