-- ==== Sys2Proof/Machine/Compact.lean ====
section
/-!
DEFINITION. The 16-bit instructions (spec/45_compact16.md). `m` is the mode of the compact slot, which gives the fall-through address
(R354). They write no flag but `cmp!`, `bittst!` and `t{cc}!`.
-/

namespace Sys2Proof.Machine

/-- The end of a half that does not write pc: pc <- next (R354). -/
def done16 (m : SlotMode) (s : State) : Result := .next (s.advance16 m)

/-! ## Format 0: move and register branch -/

/-- nop! (R313). -/
def execNop16 (m : SlotMode) (s : State) : Result := done16 m s

/-- mlfh!: a low register from a high one (R311). -/
def execMlfh16 (m : SlotMode) (rd ra : Reg) (s : State) : Result :=
  done16 m (s.setX rd (s.x ra))

/-- mhfl!: a high register from a low one (R312). -/
def execMhfl16 (m : SlotMode) (rd ra : Reg) (s : State) : Result :=
  done16 m (s.setX rd (s.x ra))

/-- mv! (R314). -/
def execMv16 (m : SlotMode) (rd ra : Reg) (s : State) : Result :=
  done16 m (s.setX rd (s.x ra))

/-- br{cc}!: if cond(cc): pc <- x[A] (R315). -/
def execBrCc16 (m : SlotMode) (c : Cond) (ra : Reg) (s : State) : Result :=
  .next (s.branch (condHolds c s.flags) false (s.x ra) (next16 m s.pc))

/-- t{cc}! (R319). -/
def execTCc16 (m : SlotMode) (c : Cond) (s : State) : Result :=
  done16 m (s.setFlags (s.flags.setT c))

/-- br{cc}l!: t = x[A]; x[3] <- next; pc <- t (R316). -/
def execBrCcL16 (m : SlotMode) (c : Cond) (ra : Reg) (s : State) : Result :=
  .next (s.branch (condHolds c s.flags) true (s.x ra) (next16 m s.pc))

/-! ## Format 1: CE transfer -/

/-- mtcel!, mtceh! (R317). -/
def execMtce16 (m : SlotMode) (rd : Reg) (sel : CeHalf) (s : State) : Result :=
  done16 m (match sel with
    | .cel => s.setCe (s.x rd) s.ceh
    | .ceh => s.setCe s.cel (s.x rd))

/-- mfcel!, mfceh! (R318). -/
def execMfce16 (m : SlotMode) (rd : Reg) (sel : CeHalf) (s : State) : Result :=
  done16 m (match sel with
    | .cel => s.setX rd s.cel
    | .ceh => s.setX rd s.ceh)

/-! ## Format 2: ALU, load and store through a register, stack -/

/-- add! (R320). -/
def execAdd16 (m : SlotMode) (rd ra : Reg) (s : State) : Result :=
  done16 m (s.setX rd (s.x rd + s.x ra))

/-- sub! (R321). -/
def execSub16 (m : SlotMode) (rd ra : Reg) (s : State) : Result :=
  done16 m (s.setX rd (s.x rd - s.x ra))

/-- neg! (R322). -/
def execNeg16 (m : SlotMode) (rd ra : Reg) (s : State) : Result :=
  done16 m (s.setX rd (0#32 - s.x ra))

/-- cmp!: SubF(x[D], x[A], 0) into N, Z, C, V; T unchanged (R323, D11). -/
def execCmp16 (m : SlotMode) (rd ra : Reg) (s : State) : Result :=
  done16 m (s.setFlags (s.flags.setNZCV (subF (s.x rd) (s.x ra) false)))

/-- and! (R324). -/
def execAnd16 (m : SlotMode) (rd ra : Reg) (s : State) : Result :=
  done16 m (s.setX rd (s.x rd &&& s.x ra))

/-- or! (R325). -/
def execOr16 (m : SlotMode) (rd ra : Reg) (s : State) : Result :=
  done16 m (s.setX rd (s.x rd ||| s.x ra))

/-- not! (R326). -/
def execNot16 (m : SlotMode) (rd ra : Reg) (s : State) : Result :=
  done16 m (s.setX rd (~~~(s.x ra)))

/-- xor! (R327). -/
def execXor16 (m : SlotMode) (rd ra : Reg) (s : State) : Result :=
  done16 m (s.setX rd (s.x rd ^^^ s.x ra))

/-- lw! (R328). -/
def execLw16 (m : SlotMode) (rd ra : Reg) (s : State) : Result :=
  done16 m (s.load rd (s.x ra) .word false)

/-- lh! (R330). -/
def execLh16 (m : SlotMode) (rd ra : Reg) (s : State) : Result :=
  done16 m (s.load rd (s.x ra) .half true)

/-- pop!: v = MemRead(x[A], 4); x[A] <- x[A] + 4; x[D] <- v (R329). -/
def execPop16 (m : SlotMode) (rd ra : Reg) (s : State) : Result :=
  done16 m (s.loadUpdate rd ra (s.x ra) (s.x ra + 4#32) .word false)

/-- lbu! (R331). -/
def execLbu16 (m : SlotMode) (rd ra : Reg) (s : State) : Result :=
  done16 m (s.load rd (s.x ra) .byte false)

/-- sw! (R332). -/
def execSw16 (m : SlotMode) (rd ra : Reg) (s : State) : Result :=
  done16 m (s.store rd (s.x ra) .word)

/-- sh! (R334). -/
def execSh16 (m : SlotMode) (rd ra : Reg) (s : State) : Result :=
  done16 m (s.store rd (s.x ra) .half)

/-- push!: v = x[D]; a = x[A] - 4; x[A] <- a; MemWrite(a, 4, v) (R333). -/
def execPush16 (m : SlotMode) (rd ra : Reg) (s : State) : Result :=
  done16 m ((s.setX ra (s.x ra - 4#32)).memWrite (s.x ra - 4#32) .word (s.x rd))

/-- sb! (R335). -/
def execSb16 (m : SlotMode) (rd ra : Reg) (s : State) : Result :=
  done16 m (s.store rd (s.x ra) .byte)

/-! ## Formats 3 to 5: direct jump, conditional branch, load immediate -/

/-- j!: pc <- (pc & 0xFFFFF000) | (disp11 << 1) (R337). -/
def execJ16 (m : SlotMode) (disp11 : BitVec 11) (s : State) : Result :=
  .next (s.branch true false (jumpTarget16 s.pc disp11) (next16 m s.pc))

/-- jl!: x[3] <- next, then as j! (R336). -/
def execJl16 (m : SlotMode) (disp11 : BitVec 11) (s : State) : Result :=
  .next (s.branch true true (jumpTarget16 s.pc disp11) (next16 m s.pc))

/-- b{cc}!: if cond(cc): pc <- pc + (sext_8(disp8) << 1) (R338). -/
def execBCc16 (m : SlotMode) (c : Cond) (disp8 : BitVec 8) (s : State) : Result :=
  .next (s.branch (condHolds c s.flags) false (branchTarget16 s.pc disp8) (next16 m s.pc))

/-- ldiu!: x[D] <- zext_8(imm8) (R353). -/
def execLdiu16 (m : SlotMode) (rd : Reg) (imm8 : BitVec 8) (s : State) : Result :=
  done16 m (s.setX rd (zext imm8))

/-! ## Format 6: shift, bit and small add -/

/-- addei!: k = 1 << imm5[3:0]; imm5[4] = 0 adds k, imm5[4] = 1 subtracts it (R339). -/
def execAddei16 (m : SlotMode) (rd : Reg) (imm5 : BitVec 5) (s : State) : Result :=
  done16 m (s.setX rd (if imm5.getLsbD 4 then s.x rd - addeiConst imm5 else s.x rd + addeiConst imm5))

/-- slli! (R340). -/
def execSlli16 (m : SlotMode) (rd : Reg) (imm5 : BitVec 5) (s : State) : Result :=
  done16 m (s.setX rd (shiftLeft (s.x rd) imm5.toNat))

/-- sdbbp!: raise E(CAUSE_SDBBP), cause 32; "cr5 <- pc of the half" (R341). The slot's mode plays no part: the advance is suppressed. -/
def execSdbbp16 (_m : SlotMode) (s : State) : Result := raise Config.causeInvalid s

/-- srli! (R342). -/
def execSrli16 (m : SlotMode) (rd : Reg) (imm5 : BitVec 5) (s : State) : Result :=
  done16 m (s.setX rd (shiftRight (s.x rd) imm5.toNat))

/-- bitclr! (R343). -/
def execBitclr16 (m : SlotMode) (rd : Reg) (imm5 : BitVec 5) (s : State) : Result :=
  done16 m (s.setX rd (s.x rd &&& ~~~(bitMask imm5)))

/-- bitset! (R344). -/
def execBitset16 (m : SlotMode) (rd : Reg) (imm5 : BitVec 5) (s : State) : Result :=
  done16 m (s.setX rd (s.x rd ||| bitMask imm5))

/-- bittst!: T and Z as for bittst (R345). -/
def execBittst16 (m : SlotMode) (rd : Reg) (imm5 : BitVec 5) (s : State) : Result :=
  done16 m (s.setFlags (s.flags.setBitTest (s.x rd &&& bitMask imm5 != 0#32)))

/-- bittgl! (R346). -/
def execBittgl16 (m : SlotMode) (rd : Reg) (imm5 : BitVec 5) (s : State) : Result :=
  done16 m (s.setX rd (s.x rd ^^^ bitMask imm5))

/-! ## Format 7: stack-pointer-relative load and store -/

/-- lwp! (R347). -/
def execLwp16 (m : SlotMode) (rd : Reg) (imm5 : BitVec 5) (s : State) : Result :=
  done16 m (s.load rd (s.spEa imm5 .word) .word false)

/-- lhp! (R348). -/
def execLhp16 (m : SlotMode) (rd : Reg) (imm5 : BitVec 5) (s : State) : Result :=
  done16 m (s.load rd (s.spEa imm5 .half) .half true)

/-- lbup! (R349). -/
def execLbup16 (m : SlotMode) (rd : Reg) (imm5 : BitVec 5) (s : State) : Result :=
  done16 m (s.load rd (s.spEa imm5 .byte) .byte false)

/-- swp! (R350). -/
def execSwp16 (m : SlotMode) (rd : Reg) (imm5 : BitVec 5) (s : State) : Result :=
  done16 m (s.store rd (s.spEa imm5 .word) .word)

/-- shp! (R351). -/
def execShp16 (m : SlotMode) (rd : Reg) (imm5 : BitVec 5) (s : State) : Result :=
  done16 m (s.store rd (s.spEa imm5 .half) .half)

/-- sbp! (R352). -/
def execSbp16 (m : SlotMode) (rd : Reg) (imm5 : BitVec 5) (s : State) : Result :=
  done16 m (s.store rd (s.spEa imm5 .byte) .byte)

end Sys2Proof.Machine
end

