-- ==== Sys2Proof/Machine/Imm.lean ====
section
/-!
DEFINITION. The I-form and RI-form instructions (spec/40_alu.md R177 to R189). But for the compares, none writes a flag (R143).
-/

namespace Sys2Proof.Machine

/-! ## I-form with the sign-extended immediate (OP 0x01) -/

/-- addi: x[rD] + sext_16(imm16) (R177). -/
def execAddi (rd : Reg) (imm16 : BitVec 16) (s : State) : Result :=
  done32 (s.setX rd (s.x rd + sext imm16))

/-- cmpi: SubF(x[rD], sext_16(imm16), 0) into N, Z, C, V; T is not written (R178, D11). -/
def execCmpi (rd : Reg) (imm16 : BitVec 16) (s : State) : Result :=
  done32 (s.setFlags (s.flags.setNZCV (subF (s.x rd) (sext imm16) false)))

/-- andi: x[rD] & sext_16(imm16) (R179). -/
def execAndi (rd : Reg) (imm16 : BitVec 16) (s : State) : Result :=
  done32 (s.setX rd (s.x rd &&& sext imm16))

/-- ori: x[rD] | sext_16(imm16) (R180). -/
def execOri (rd : Reg) (imm16 : BitVec 16) (s : State) : Result :=
  done32 (s.setX rd (s.x rd ||| sext imm16))

/-- ldi: x[rD] <- sext_16(imm16) (R181). -/
def execLdi (rd : Reg) (imm16 : BitVec 16) (s : State) : Result :=
  done32 (s.setX rd (sext imm16))

/-! ## I-form with the shifted immediate (OP 0x05) -/

/-- addis: x[rD] + imm16 << 16 (R182). -/
def execAddis (rd : Reg) (imm16 : BitVec 16) (s : State) : Result :=
  done32 (s.setX rd (s.x rd + immShifted imm16))

/-- cmpis: SubF(x[rD], imm16 << 16, 0) into N, Z, C, V; T is not written (R183, D11). -/
def execCmpis (rd : Reg) (imm16 : BitVec 16) (s : State) : Result :=
  done32 (s.setFlags (s.flags.setNZCV (subF (s.x rd) (immShifted imm16) false)))

/-- andis: x[rD] & imm16 << 16 (R184). -/
def execAndis (rd : Reg) (imm16 : BitVec 16) (s : State) : Result :=
  done32 (s.setX rd (s.x rd &&& immShifted imm16))

/-- oris: x[rD] | imm16 << 16 (R185). -/
def execOris (rd : Reg) (imm16 : BitVec 16) (s : State) : Result :=
  done32 (s.setX rd (s.x rd ||| immShifted imm16))

/-- ldis: x[rD] <- imm16 << 16 (R186). -/
def execLdis (rd : Reg) (imm16 : BitVec 16) (s : State) : Result :=
  done32 (s.setX rd (immShifted imm16))

/-! ## RI-form: imm = sext_14(imm14) -/

/-- addri (R187). -/
def execAddri (rd ra : Reg) (imm14 : BitVec 14) (s : State) : Result :=
  done32 (s.setX rd (s.x ra + sext imm14))

/-- andri (R188). -/
def execAndri (rd ra : Reg) (imm14 : BitVec 14) (s : State) : Result :=
  done32 (s.setX rd (s.x ra &&& sext imm14))

/-- orri (R189). -/
def execOrri (rd ra : Reg) (imm14 : BitVec 14) (s : State) : Result :=
  done32 (s.setX rd (s.x ra ||| sext imm14))

end Sys2Proof.Machine
end

