-- ==== Sys2Proof/Machine/MulDiv.lean ====
section
/-!
DEFINITION. Multiply, divide and the accumulator transfers (spec/41_muldiv_ce.md). None writes a flag.
-/

namespace Sys2Proof.Machine

/-- P = p mod 2^64 for an exact product p: CEL <- P[31:0]; CEH <- P[63:32] (R220, R221). -/
def State.putProduct (s : State) (p : Int) : State :=
  let w := BitVec.ofInt 64 p
  s.setCe (w.extractLsb' 0 32) (w.extractLsb' 32 32)

/-- CEL <- q mod 2^32; CEH <- r mod 2^32 (R222, R223). -/
def State.putQuotient (s : State) (q r : Int) : State := s.setCe (BitVec.ofInt 32 q) (BitVec.ofInt 32 r)

/-- mul: the exact signed product (R220). -/
def execMul (ra rb : Reg) (s : State) : Result :=
  done32 (s.putProduct ((s.x ra).toInt * (s.x rb).toInt))

/-- mulu: the exact unsigned product (R221). -/
def execMulu (ra rb : Reg) (s : State) : Result :=
  done32 (s.putProduct ((s.x ra).toNat * (s.x rb).toNat))

/-- div: "truncates toward zero"; "Division by zero is a no-op (leaves CEL/CEH unchanged)" (R222). -/
def execDiv (ra rb : Reg) (s : State) : Result :=
  let n := (s.x ra).toInt
  let d := (s.x rb).toInt
  done32 (if s.x rb = 0#32 then s else s.putQuotient (n.tdiv d) (n.tmod d))

/-- divu: unsigned quotient and remainder; a zero divisor is a no-op (R223). -/
def execDivu (ra rb : Reg) (s : State) : Result :=
  let n := (s.x ra).toNat
  let d := (s.x rb).toNat
  done32 (if s.x rb = 0#32 then s else s.putQuotient (n / d : Nat) (n % d : Nat))

/-- mfce: selector 1 low, 2 high, 3 both into rD and the next register, 0 no effect (R224, D15). -/
def execMfce (rd : Reg) (sel : BitVec 2) (s : State) : Result :=
  done32 (match sel with
    | 0#2 => s
    | 1#2 => s.setX rd s.cel
    | 2#2 => s.setX rd s.ceh
    | _ => (s.setX rd s.cel).setX (nextReg rd) s.ceh)

/-- mtce: selector 1 low, 2 high, 3 both from rD and the next register, 0 no effect (R225, D15). -/
def execMtce (rd : Reg) (sel : BitVec 2) (s : State) : Result :=
  done32 (match sel with
    | 0#2 => s
    | 1#2 => s.setCe (s.x rd) s.ceh
    | 2#2 => s.setCe s.cel (s.x rd)
    | _ => s.setCe (s.x rd) (s.x (nextReg rd)))

end Sys2Proof.Machine
end

