-- ==== Sys2Proof/Machine/System.lean ====
section
/-!
DEFINITION. The system instructions of the 32-bit formats (spec/44_system.md). There is one privilege level: none is privileged (R414).
-/

namespace Sys2Proof.Machine

/-- nop: "Operation: none" (R290). -/
def execNop (s : State) : Result := done32 s

/-- mfsr: x[rD] <- sr[B]; sr0 reads as the packed flags (R291, R27). -/
def execMfsr (rd sb : Reg) (s : State) : Result :=
  done32 (s.setX rd (s.sr sb))

/-- mtsr: sr[B] <- x[rA]; "writing sr0 unpacks the flag layout" (R292). -/
def execMtsr (sb ra : Reg) (s : State) : Result :=
  done32 (s.setSr sb (s.x ra))

/-- mfcr: x[rD] <- cr[A] (R293). -/
def execMfcr (rd crA : Reg) (s : State) : Result :=
  done32 (s.setX rd (s.cr crA))

/-- mtcr: cr[A] <- x[rD], "all 32 bits, for any A" (R294). -/
def execMtcr (rd crA : Reg) (s : State) : Result :=
  done32 (s.setCr crA (s.x rd))

/-- rte: unpack(cr1); pc <- cr5; "Nothing else" (R295, R403). -/
def execRte (s : State) : Result := .next s.returnFromException

/-- sdbbp: raise E(CAUSE_SDBBP), cause 32 (R296). -/
def execSdbbp (s : State) : Result := raise Config.causeInvalid s

/-- trap{cc}: if cond(cc): raise E(CAUSE_TRAP), cause 33; otherwise nothing (R297). -/
def execTrapCc (c : Cond) (s : State) : Result :=
  if condHolds c s.flags then raise Config.causeTrap s else done32 s

end Sys2Proof.Machine
end

