-- ==== Sys2Proof/Machine/Dispatch.lean ====
section
/-!
DEFINITION. The meaning of every instruction: one arm per row of the opcode table (R120 step 4 with the advance of step 5).
-/

namespace Sys2Proof.Machine

def exec (i : Instr) (s : State) : Host.Outcome State Fault Refusal :=
  match i with
  | .nop => Sys2Proof.Machine.execNop s
  | .trapCc c => Sys2Proof.Machine.execTrapCc c s
  | .sdbbp => Sys2Proof.Machine.execSdbbp s
  | .brCc c ra => Sys2Proof.Machine.execBrCc c ra s
  | .brCcL c ra => Sys2Proof.Machine.execBrCcL c ra s
  | .add rd ra rb cu => Sys2Proof.Machine.execAdd rd ra rb cu s
  | .addc rd ra rb cu => Sys2Proof.Machine.execAddc rd ra rb cu s
  | .sub rd ra rb cu => Sys2Proof.Machine.execSub rd ra rb cu s
  | .subc rd ra rb cu => Sys2Proof.Machine.execSubc rd ra rb cu s
  | .cmpCc c ra rb => Sys2Proof.Machine.execCmpCc c ra rb s
  | .cmpzCc c ra => Sys2Proof.Machine.execCmpzCc c ra s
  | .neg rd rb cu => Sys2Proof.Machine.execNeg rd rb cu s
  | .and rd ra rb cu => Sys2Proof.Machine.execAnd rd ra rb cu s
  | .or rd ra rb cu => Sys2Proof.Machine.execOr rd ra rb cu s
  | .not rd ra cu => Sys2Proof.Machine.execNot rd ra cu s
  | .xor rd ra rb cu => Sys2Proof.Machine.execXor rd ra rb cu s
  | .bitclr rd ra bit cu => Sys2Proof.Machine.execBitclr rd ra bit cu s
  | .bitset rd ra bit cu => Sys2Proof.Machine.execBitset rd ra bit cu s
  | .bittst ra bit => Sys2Proof.Machine.execBittst ra bit s
  | .bittgl rd ra bit cu => Sys2Proof.Machine.execBittgl rd ra bit cu s
  | .sll rd ra rb cu => Sys2Proof.Machine.execSll rd ra rb cu s
  | .srl rd ra rb cu => Sys2Proof.Machine.execSrl rd ra rb cu s
  | .sra rd ra rb cu => Sys2Proof.Machine.execSra rd ra rb cu s
  | .ror rd ra rb cu => Sys2Proof.Machine.execRor rd ra rb cu s
  | .rorc rd ra rb cu => Sys2Proof.Machine.execRorc rd ra rb cu s
  | .rol rd ra rb cu => Sys2Proof.Machine.execRol rd ra rb cu s
  | .rolc rd ra rb cu => Sys2Proof.Machine.execRolc rd ra rb cu s
  | .mul ra rb => Sys2Proof.Machine.execMul ra rb s
  | .mulu ra rb => Sys2Proof.Machine.execMulu ra rb s
  | .div ra rb => Sys2Proof.Machine.execDiv ra rb s
  | .divu ra rb => Sys2Proof.Machine.execDivu ra rb s
  | .mfce rd sel => Sys2Proof.Machine.execMfce rd sel s
  | .mtce rd sel => Sys2Proof.Machine.execMtce rd sel s
  | .mfsr rd sb => Sys2Proof.Machine.execMfsr rd sb s
  | .mtsr sb ra => Sys2Proof.Machine.execMtsr sb ra s
  | .tCc c => Sys2Proof.Machine.execTCc c s
  | .mvCc c rd ra => Sys2Proof.Machine.execMvCc c rd ra s
  | .extsb rd ra cu => Sys2Proof.Machine.execExtsb rd ra cu s
  | .extsh rd ra cu => Sys2Proof.Machine.execExtsh rd ra cu s
  | .extzb rd ra cu => Sys2Proof.Machine.execExtzb rd ra cu s
  | .extzh rd ra cu => Sys2Proof.Machine.execExtzh rd ra cu s
  | .slli rd ra imm5 cu => Sys2Proof.Machine.execSlli rd ra imm5 cu s
  | .srli rd ra imm5 cu => Sys2Proof.Machine.execSrli rd ra imm5 cu s
  | .srai rd ra imm5 cu => Sys2Proof.Machine.execSrai rd ra imm5 cu s
  | .rori rd ra imm5 cu => Sys2Proof.Machine.execRori rd ra imm5 cu s
  | .roric rd ra imm5 cu => Sys2Proof.Machine.execRoric rd ra imm5 cu s
  | .roli rd ra imm5 cu => Sys2Proof.Machine.execRoli rd ra imm5 cu s
  | .rolic rd ra imm5 cu => Sys2Proof.Machine.execRolic rd ra imm5 cu s
  | .addi rd imm16 => Sys2Proof.Machine.execAddi rd imm16 s
  | .cmpi rd imm16 => Sys2Proof.Machine.execCmpi rd imm16 s
  | .andi rd imm16 => Sys2Proof.Machine.execAndi rd imm16 s
  | .ori rd imm16 => Sys2Proof.Machine.execOri rd imm16 s
  | .ldi rd imm16 => Sys2Proof.Machine.execLdi rd imm16 s
  | .addis rd imm16 => Sys2Proof.Machine.execAddis rd imm16 s
  | .cmpis rd imm16 => Sys2Proof.Machine.execCmpis rd imm16 s
  | .andis rd imm16 => Sys2Proof.Machine.execAndis rd imm16 s
  | .oris rd imm16 => Sys2Proof.Machine.execOris rd imm16 s
  | .ldis rd imm16 => Sys2Proof.Machine.execLdis rd imm16 s
  | .j disp24 => Sys2Proof.Machine.execJ disp24 s
  | .jl disp24 => Sys2Proof.Machine.execJl disp24 s
  | .bCc c disp22 => Sys2Proof.Machine.execBCc c disp22 s
  | .bCcL c disp22 => Sys2Proof.Machine.execBCcL c disp22 s
  | .mtcr rd crA => Sys2Proof.Machine.execMtcr rd crA s
  | .mfcr rd crA => Sys2Proof.Machine.execMfcr rd crA s
  | .rte => Sys2Proof.Machine.execRte s
  | .addri rd ra imm14 => Sys2Proof.Machine.execAddri rd ra imm14 s
  | .andri rd ra imm14 => Sys2Proof.Machine.execAndri rd ra imm14 s
  | .orri rd ra imm14 => Sys2Proof.Machine.execOrri rd ra imm14 s
  | .lw rd ra imm15 => Sys2Proof.Machine.execLw rd ra imm15 s
  | .lh rd ra imm15 => Sys2Proof.Machine.execLh rd ra imm15 s
  | .lhu rd ra imm15 => Sys2Proof.Machine.execLhu rd ra imm15 s
  | .lb rd ra imm15 => Sys2Proof.Machine.execLb rd ra imm15 s
  | .sw rd ra imm15 => Sys2Proof.Machine.execSw rd ra imm15 s
  | .sh rd ra imm15 => Sys2Proof.Machine.execSh rd ra imm15 s
  | .lbu rd ra imm15 => Sys2Proof.Machine.execLbu rd ra imm15 s
  | .sb rd ra imm15 => Sys2Proof.Machine.execSb rd ra imm15 s
  | .lwPre rd ra imm12 => Sys2Proof.Machine.execLwPre rd ra imm12 s
  | .lhPre rd ra imm12 => Sys2Proof.Machine.execLhPre rd ra imm12 s
  | .lhuPre rd ra imm12 => Sys2Proof.Machine.execLhuPre rd ra imm12 s
  | .lbPre rd ra imm12 => Sys2Proof.Machine.execLbPre rd ra imm12 s
  | .swPre rd ra imm12 => Sys2Proof.Machine.execSwPre rd ra imm12 s
  | .shPre rd ra imm12 => Sys2Proof.Machine.execShPre rd ra imm12 s
  | .lbuPre rd ra imm12 => Sys2Proof.Machine.execLbuPre rd ra imm12 s
  | .sbPre rd ra imm12 => Sys2Proof.Machine.execSbPre rd ra imm12 s
  | .lwRix rd ra imm12 => Sys2Proof.Machine.execLwRix rd ra imm12 s
  | .lhRix rd ra imm12 => Sys2Proof.Machine.execLhRix rd ra imm12 s
  | .lhuRix rd ra imm12 => Sys2Proof.Machine.execLhuRix rd ra imm12 s
  | .lbRix rd ra imm12 => Sys2Proof.Machine.execLbRix rd ra imm12 s
  | .swRix rd ra imm12 => Sys2Proof.Machine.execSwRix rd ra imm12 s
  | .shRix rd ra imm12 => Sys2Proof.Machine.execShRix rd ra imm12 s
  | .lbuRix rd ra imm12 => Sys2Proof.Machine.execLbuRix rd ra imm12 s
  | .sbRix rd ra imm12 => Sys2Proof.Machine.execSbRix rd ra imm12 s
  | .nop16 m => Sys2Proof.Machine.execNop16 m s
  | .mlfh16 m rd ra => Sys2Proof.Machine.execMlfh16 m rd ra s
  | .mhfl16 m rd ra => Sys2Proof.Machine.execMhfl16 m rd ra s
  | .mv16 m rd ra => Sys2Proof.Machine.execMv16 m rd ra s
  | .brCc16 m c ra => Sys2Proof.Machine.execBrCc16 m c ra s
  | .tCc16 m c => Sys2Proof.Machine.execTCc16 m c s
  | .brCcL16 m c ra => Sys2Proof.Machine.execBrCcL16 m c ra s
  | .mtce16 m rd sel => Sys2Proof.Machine.execMtce16 m rd sel s
  | .mfce16 m rd sel => Sys2Proof.Machine.execMfce16 m rd sel s
  | .add16 m rd ra => Sys2Proof.Machine.execAdd16 m rd ra s
  | .sub16 m rd ra => Sys2Proof.Machine.execSub16 m rd ra s
  | .neg16 m rd ra => Sys2Proof.Machine.execNeg16 m rd ra s
  | .cmp16 m rd ra => Sys2Proof.Machine.execCmp16 m rd ra s
  | .and16 m rd ra => Sys2Proof.Machine.execAnd16 m rd ra s
  | .or16 m rd ra => Sys2Proof.Machine.execOr16 m rd ra s
  | .not16 m rd ra => Sys2Proof.Machine.execNot16 m rd ra s
  | .xor16 m rd ra => Sys2Proof.Machine.execXor16 m rd ra s
  | .lw16 m rd ra => Sys2Proof.Machine.execLw16 m rd ra s
  | .lh16 m rd ra => Sys2Proof.Machine.execLh16 m rd ra s
  | .pop16 m rd ra => Sys2Proof.Machine.execPop16 m rd ra s
  | .lbu16 m rd ra => Sys2Proof.Machine.execLbu16 m rd ra s
  | .sw16 m rd ra => Sys2Proof.Machine.execSw16 m rd ra s
  | .sh16 m rd ra => Sys2Proof.Machine.execSh16 m rd ra s
  | .push16 m rd ra => Sys2Proof.Machine.execPush16 m rd ra s
  | .sb16 m rd ra => Sys2Proof.Machine.execSb16 m rd ra s
  | .j16 m disp11 => Sys2Proof.Machine.execJ16 m disp11 s
  | .jl16 m disp11 => Sys2Proof.Machine.execJl16 m disp11 s
  | .bCc16 m c disp8 => Sys2Proof.Machine.execBCc16 m c disp8 s
  | .ldiu16 m rd imm8 => Sys2Proof.Machine.execLdiu16 m rd imm8 s
  | .addei16 m rd imm5 => Sys2Proof.Machine.execAddei16 m rd imm5 s
  | .slli16 m rd imm5 => Sys2Proof.Machine.execSlli16 m rd imm5 s
  | .sdbbp16 m => Sys2Proof.Machine.execSdbbp16 m s
  | .srli16 m rd imm5 => Sys2Proof.Machine.execSrli16 m rd imm5 s
  | .bitclr16 m rd imm5 => Sys2Proof.Machine.execBitclr16 m rd imm5 s
  | .bitset16 m rd imm5 => Sys2Proof.Machine.execBitset16 m rd imm5 s
  | .bittst16 m rd imm5 => Sys2Proof.Machine.execBittst16 m rd imm5 s
  | .bittgl16 m rd imm5 => Sys2Proof.Machine.execBittgl16 m rd imm5 s
  | .lwp16 m rd imm5 => Sys2Proof.Machine.execLwp16 m rd imm5 s
  | .lhp16 m rd imm5 => Sys2Proof.Machine.execLhp16 m rd imm5 s
  | .lbup16 m rd imm5 => Sys2Proof.Machine.execLbup16 m rd imm5 s
  | .swp16 m rd imm5 => Sys2Proof.Machine.execSwp16 m rd imm5 s
  | .shp16 m rd imm5 => Sys2Proof.Machine.execShp16 m rd imm5 s
  | .sbp16 m rd imm5 => Sys2Proof.Machine.execSbp16 m rd imm5 s

end Sys2Proof.Machine
end

