-- ==== Sys2Proof/Machine/Cpu.lean ====
section
/-!
DEFINITION. One CPU step (spec/30_encoding.md R120): fetch, decode, execute, advance, count.
-/

namespace Sys2Proof.Machine

/-- Steps 3 to 5 of R120 on a fetched slot: the instruction it decodes to, or for "invalid" the exception with cause 32 (R116, R298). The half of a
compact slot is chosen by pc[1] and T as they stand before the step (R112). -/
def State.execSlot (slot : Word) (s : State) : Result :=
  match decodeSlot slot (s.pc.getLsbD 1) s.flags.t with
  | .ok i => exec i s
  | .error _ => raise Config.causeInvalid s

/-- One CPU step: "While halted = 1 a CPU step changes nothing (no fetch, no counters) and reports success" (R37, R120, R123). -/
def State.cpuStep (s : State) : Result :=
  if s.halted then .next s
  else
    let p := s.fetch
    andThen (State.execSlot p.1 p.2) fun t => .next t.countStep

end Sys2Proof.Machine
end

