-- ==== Sys2Proof/Machine/Engine.lean ====
section
/-!
DEFINITION. The engine (spec/62_engine.md), "the single scheduler", cut into the units that the machine's step performs one at a time
(log entry 1): the start of a frame, one iteration of its slice loop, its end, or one CPU step for the host's `step()`.
-/

namespace Sys2Proof.Machine

/-- R505 steps 2c (for sliceRemaining) and 2d: charge 4 cycles; when the slice has run out, refill it and tick the timer block. -/
def State.chargeSlice (s : State) : State :=
  let left := s.sliceRemaining - Config.cyclesPerInstruction
  if left ≤ 0 then { s with sliceRemaining := Config.cyclesPerSlice }.tick Config.cyclesPerSlice
  else { s with sliceRemaining := left }

/-- R505 step 2c for cyclesRemaining, which was `c`. -/
def State.chargeFrame (s : State) (c : Int) : State := { s with cyclesRemaining := some (c - Config.cyclesPerInstruction) }

/-- R505 step 0: clear vblank, give the frame its cycles. -/
def State.beginFrame (s : State) : State :=
  { s.setVdu s.vdu.clearVblank with cyclesRemaining := some Config.cyclesPerFrame }

/-- R505 steps 3 and 4: count the frame, signal vblank, and render if the display is enabled. -/
def State.endFrame (s : State) : State :=
  let s := { s with frameCounter := s.frameCounter + 1, cyclesRemaining := none }.trigger Config.irqVblank
  if s.vdu.ctrl.getLsbD 0 then s.render else s

/-- R505 step 2a, a hit: "transition to PAUSED and return"; the rest of cyclesRemaining is discarded (R515). -/
def State.hitBreakpoint (s : State) : State := { s with mode := .paused, cyclesRemaining := none }

/-- R513: one pass of R505's 2b, 2c (for sliceRemaining only) and 2d, without a breakpoint check. -/
def State.singleStep (s : State) : Result := andThen s.cpuStep fun t => .next t.chargeSlice

/-- One iteration of R505's slice loop, steps 2a to 2d, with `c` cycles left. Step 2e's safety break is "never taken". -/
def State.iteration (s : State) (c : Int) : Result :=
  if s.pc ∈ s.breakpoints then .next s.hitBreakpoint
  else andThen s.cpuStep fun t => .next (t.chargeFrame c).chargeSlice

/-- One unit of the engine's work. In STOPPED, LOADING and ERROR the engine does nothing (R501, R505, R513, R520). -/
def State.engineUnit (s : State) : Result :=
  match s.mode with
  | .paused => s.singleStep
  | .running =>
    match s.cyclesRemaining with
    | none => .next s.beginFrame
    | some c => if 0 < c then s.iteration c else .next s.endFrame
  | .stopped => .next s
  | .loading => .next s
  | .error => .next s

/-- Units until the frame has ended or a breakpoint has paused the engine, at most `fuel` of them. -/
def State.frameUnits : Nat → State → Result
  | 0, s => .next s
  | fuel + 1, s =>
    andThen s.engineUnit fun t =>
      if t.cyclesRemaining.isSome then State.frameUnits fuel t else .next t

/-- `frame(timestamp)` from between two frames: step 0, at most 141,120 iterations and the end (R505, R507); in any other mode than RUNNING
nothing. The timestamp enters nothing (R509). -/
def State.frame (s : State) : Result :=
  if s.mode = .running then State.frameUnits (Config.cyclesPerFrame / Config.cyclesPerInstruction + 2) s else .next s

/-- The four bytes of a slot at this address are storage: flash or DRAM, within its size (R61, R67). -/
def slotInStorage (a : Word) : Bool :=
  match Config.regionOf (segmentOf a) with
  | some (.backing b) => decide ((offsetOf a).toNat + 4 ≤ b.size)
  | _ => false

/-- Where an instruction is put so that the next step fetches it: the slot at pc when it is storage, else the first slot of flash. -/
def fetchPlace (pc : Word) : Word :=
  let a := pc &&& 0xFFFFFFFC#32
  if slotInStorage a then a else Config.entryPcDefault

/-- The machine with a slot stored where the next step fetches, and pc, T, `halted` and the mode such that this step runs it (log entry 10). -/
def State.placeSlot (s : State) (slot : Word) : State :=
  let a := fetchPlace s.pc
  { s with
    mem := s.mem.writeLE a.toNat slot 4
    pc := a
    flags := { s.flags with t := s.flags.t || (isCompact slot && slotMode slot == .parallel) }
    halted := false
    mode := .paused }

end Sys2Proof.Machine
end

