-- ==== Sys2Proof/Machine/Step.lean ====
section
/-!
DEFINITION. The machine's step: one unit of the engine's work (log entry 1). It never faults and never refuses.
-/

namespace Sys2Proof.Machine

/-- One step: next, fault or refusal (R505, R513, R520). -/
def step (s : State) : Host.Outcome State Fault Refusal := s.engineUnit

/-- The machine with an instruction of the opcode table, `nbits` of whose bits are `w`, stored where `step` fetches next. -/
def State.withFetchWord (s : State) (nbits w : Nat) : State := s.placeSlot (tableSlot nbits w)

end Sys2Proof.Machine
end

