-- ==== Sys2Proof/Machine/Loader.lean ====
section
/-!
DEFINITION. The ROM loader and the reset of the engine (spec/70_reset_and_hazards.md R540, R545, R546; spec/20_memory.md R69).
-/

namespace Sys2Proof.Machine

/-- Bulk load: byte i of the sequence to address `a + i`, at most `room` bytes; "Bytes beyond the region's size are not stored" (R69). -/
def bulkLoad : Memory → Nat → Nat → List Byte → Memory
  | m, _, 0, _ => m
  | m, _, _ + 1, [] => m
  | m, a, room + 1, b :: rest => bulkLoad (m.write a b) (a + 1) room rest

/-- The four bytes from an address reversed. -/
def reverseGroup (m : Memory) (a : Nat) : Memory :=
  (((m.write a (m.read (a + 3))).write (a + 1) (m.read (a + 2))).write (a + 2) (m.read (a + 1))).write (a + 3) (m.read a)

/-- The first n four-byte groups from an address, each reversed (R545). -/
def swapGroups (m : Memory) (a : Nat) : Nat → Memory
  | 0 => m
  | n + 1 => reverseGroup (swapGroups m a n) (a + 4 * n)

/-- "the candidate's bytes at offsets 0x4E, 0x4F, 0x50, 0x51 are 0x61, 0x4D, 0x38, 0x32" (R546). -/
def hasMagic (m : Memory) : Bool :=
  m.read (Config.flash.base + 0x4E) == 0x61#8 && m.read (Config.flash.base + 0x4F) == 0x4D#8
    && m.read (Config.flash.base + 0x50) == 0x38#8 && m.read (Config.flash.base + 0x51) == 0x32#8

/-- The candidate flash image: the file over the present flash, word-swapped if only the big-endian reading of the first word has a valid
opcode (R545). -/
def candidate (valid : BitVec 5 → Bool) (bytes : List Byte) (m : Memory) : Memory :=
  let c := bulkLoad m Config.flash.base Config.flash.size bytes
  let opLe := (c.read (Config.flash.base + 3)).extractLsb' 3 5
  let opBe := (c.read Config.flash.base).extractLsb' 3 5
  if valid opBe && !valid opLe then swapGroups c Config.flash.base ((min bytes.length Config.flash.size + 3) / 4) else c

/-- `loadRom` for a set of valid opcodes: entry choice, verification, commit; on failure mode ERROR and nothing else (R510, R546). -/
def State.loadRomWith (valid : BitVec 5 → Bool) (bytes : List Byte) (s : State) : State :=
  let c := candidate valid bytes s.mem
  let entry := if hasMagic c then Config.entryPcMagic else Config.entryPcDefault
  let w := c.readLE (Config.flash.base + (offsetOf entry).toNat) 4
  if valid (opField w) then { s with mem := c, pc := entry, mode := .paused } else { s with mode := .error }

/-- `loadRom(bytes)` under ROM_VALID_OPS (R510, R545, R546). -/
def State.loadRom (bytes : List Byte) (s : State) : State := s.loadRomWith Config.romValidOps bytes

/-- The bytes of flash alone. -/
def flashBytes (m : Memory) : Memory :=
  m.filter fun c => decide (Config.flash.base ≤ c.1) && decide (c.1 < Config.flash.base + Config.flash.size)

/-- `reset()` of the engine: every item of R46 at its reset value, "the flash contents are kept", "the breakpoint set is the host's and is
kept", mode PAUSED (R514, R540). -/
def State.engineReset (s : State) : State := { State.reset with mem := flashBytes s.mem, breakpoints := s.breakpoints }

end Sys2Proof.Machine
end

