-- ==== Sys2Proof/Machine/HostOps.lean ====
section
/-!
DEFINITION. What the host can do to the machine (spec/62_engine.md R510 to R519; spec/61_devices.md R461, R463). These operations are not
steps of the machine (log entry 2); between two frames each takes effect, inside one none does (R508; log entry 3).
-/

namespace Sys2Proof.Machine

/-- The host's operations. -/
inductive HostOp where
  /-- `loadRom(bytes)` (R510) -/
  | loadRom (bytes : List Byte)
  /-- `start()` (R511) -/
  | start
  /-- `pause()` (R512) -/
  | pause
  /-- `step()` of the engine (R513) -/
  | singleStep
  /-- `reset()` of the engine (R514) -/
  | reset
  /-- `frame(timestamp)` (R505) -/
  | frame
  /-- an address put into the breakpoint set (R515) -/
  | setBreakpoint (a : Word)
  /-- an address taken out of the breakpoint set (R515) -/
  | clearBreakpoint (a : Word)
  /-- a watchpoint, "named once and given no behaviour" (R515) -/
  | setWatchpoint (a : Word)
  /-- `getStatus()` (R516) -/
  | getStatus
  /-- `enqueueRx(b)` (R461, R517) -/
  | enqueueRx (b : Byte)
  /-- `drainTx()` (R463, R517) -/
  | drainTx
  /-- `triggerIrq(cpu, line)` (R518) -/
  | triggerIrq (line : BitVec 5)
  /-- the CPU object's own `step()`: one CPU step, nothing charged to the engine (R120, R519) -/
  | cpuStep
  /-- the CPU object's own `reset()` (R519, R540; log entry 13) -/
  | cpuReset
  /-- every getter at once: the state (R519) -/
  | inspect
  /-- x[i] <- v (R519) -/
  | writeReg (i : Reg) (v : Word)
  /-- cr[i] <- v (R519) -/
  | writeCr (i : Reg) (v : Word)
  /-- sr[i] <- v (R519) -/
  | writeSr (i : Reg) (v : Word)
  /-- CEL and CEH (R519) -/
  | writeCe (lo hi : Word)
  /-- the five flags (R519) -/
  | writeFlags (f : Flags)
  /-- pc <- v (R519) -/
  | writePc (v : Word)
  /-- halted <- b (R37, R519) -/
  | writeHalted (b : Bool)
  /-- an MIU read, which acts "exactly as CPU accesses do" (R519) -/
  | readMem (addr : Word) (sz : Size)
  /-- an MIU write (R519) -/
  | writeMem (addr : Word) (sz : Size) (v : Word)
  /-- a timer register through the peripheral object, the only way to channel 0 (R440, R519) -/
  | writeTimer (k : ChannelId) (r : TimerReg) (v : Word)
  deriving DecidableEq, Repr

/-- What an operation answers the host. -/
inductive HostReply where
  | done
  | word (v : Word)
  | bytes (l : List Byte)
  | status (mode : EngineMode) (frames : Nat)
  | snapshot (s : State)
  deriving DecidableEq, Repr

/-- `start()`: PAUSED to RUNNING (R511). -/
def State.start (s : State) : State := if s.mode = .paused then { s with mode := .running } else s

/-- `pause()`: RUNNING to PAUSED (R512). -/
def State.pause (s : State) : State := if s.mode = .running then { s with mode := .paused } else s

/-- `drainTx()`: the TX log, emptied (R463). -/
def State.drainTx (s : State) : List Byte × State := (s.uart.txLog, s.setUart { s.uart with txLog := [] })

/-- The CPU's share of the reset values: "CPU registers, flags, pc, counters, `halted`" (R46, R540; log entry 13). -/
def State.cpuReset (s : State) : State :=
  { s with
    regs := State.reset.regs
    pc := State.reset.pc
    flags := State.reset.flags
    sysRegs := State.reset.sysRegs
    ctlRegs := State.reset.ctlRegs
    cel := State.reset.cel
    ceh := State.reset.ceh
    cycles := State.reset.cycles
    instret := State.reset.instret
    halted := State.reset.halted }

/-- `enqueueRx(b)` in the machine (R461). -/
def State.enqueueRx (s : State) (b : Byte) : State := s.setUart (s.uart.enqueueRx b)

/-- What an operation answers: the state and a reply. -/
abbrev HostResult := Host.Outcome (State × HostReply) Fault Refusal

/-- The state after, with a plain reply. -/
def hostDone (s : State) : HostResult := .next (s, .done)

/-- The state a unit of the engine ends in, with a plain reply. -/
def hostRun (r : Result) : HostResult :=
  match r with
  | .next s => hostDone s
  | .fault e => .fault e
  | .refused e => .refused e

/-- An operation between two frames. -/
def hostBetweenFrames (op : HostOp) (s : State) : HostResult :=
  match op with
  | .loadRom bytes => hostDone (s.loadRom bytes)
  | .start => hostDone s.start
  | .pause => hostDone s.pause
  | .singleStep => if s.mode = .paused then hostRun s.singleStep else hostDone s
  | .reset => hostDone s.engineReset
  | .frame => hostRun s.frame
  | .setBreakpoint a => hostDone { s with breakpoints := s.breakpoints.insert a }
  | .clearBreakpoint a => hostDone { s with breakpoints := s.breakpoints.filter fun b => b != a }
  | .setWatchpoint _ => .refused .watchpointUnspecified
  | .getStatus => .next (s, .status s.mode s.frameCounter)
  | .enqueueRx b => hostDone (s.enqueueRx b)
  | .drainTx => .next (s.drainTx.2, .bytes s.drainTx.1)
  | .triggerIrq line => hostDone (s.trigger line)
  | .cpuStep => hostRun s.cpuStep
  | .cpuReset => hostDone s.cpuReset
  | .inspect => .next (s, .snapshot s)
  | .writeReg i v => hostDone (s.setX i v)
  | .writeCr i v => hostDone (s.setCr i v)
  | .writeSr i v => hostDone (s.setSr i v)
  | .writeCe lo hi => hostDone (s.setCe lo hi)
  | .writeFlags f => hostDone (s.setFlags f)
  | .writePc v => hostDone (s.goto v)
  | .writeHalted b => hostDone { s with halted := b }
  | .readMem addr sz => .next ((s.memRead addr sz).2, .word (s.memRead addr sz).1)
  | .writeMem addr sz v => hostDone (s.memWrite addr sz v)
  | .writeTimer k r v => hostDone (s.setTimers (s.timers.set k ((s.timers.get k).write r v)))

/-- An operation of the host. "Host operations (rules R510 to R519) take place between frames" (R508, D38): one asked for inside a frame is refused, and
the host repeats it when the frame has ended. -/
def hostOp (op : HostOp) (s : State) : HostResult :=
  if s.cyclesRemaining.isSome then .refused .insideFrame else hostBetweenFrames op s

end Sys2Proof.Machine
end

