-- ==== Sys2Proof/Safety.lean ====
section
/-!
DEFINITION. What it means for a state to be one the machine can be in: the invariants the spec's prose gives the whole machine
(spec/10_state.md, spec/61_devices.md, spec/62_engine.md). Claims over every state take them as a premise where they need them.
-/

namespace Sys2Proof.Machine

/-- A byte of storage the spec gives the machine: flash, DRAM, or a fallback cell of the I/O image (R39, R61, R72). -/
def isStorage (a : Nat) : Prop :=
  (Config.flash.base ≤ a ∧ a < Config.flash.base + Config.flash.size)
    ∨ (Config.dram.base ≤ a ∧ a < Config.dram.base + Config.dram.size)
    ∨ ∃ i : BitVec 16, mmioWord i = .cell i ∧ cellAddress i ≤ a ∧ a < cellAddress i + 4

/-- Storage is in canonical form and holds only bytes the spec gives the machine (R39, R72). -/
structure State.StorageOk (s : State) : Prop where
  wf : s.mem.wf
  inside : ∀ c ∈ s.mem, isStorage c.1

/-- The pixel array is in canonical form and has 4 * VDU_W * VDU_H bytes (R475). -/
structure Vdu.PixelsOk (v : Vdu) : Prop where
  wf : v.pixels.wf
  inside : ∀ c ∈ v.pixels, c.1 < 4 * (Config.vduW * Config.vduH)

/-- "So STATUS reads 0x90 or 0xD0" (R459): RX-ready exactly while a byte is queued, and RXREG is the queue's head (R461, R462). -/
structure Uart.Ok (u : Uart) : Prop where
  status : u.status = if u.rxFifo.isEmpty then 0x90#32 else 0xD0#32
  rxReg : u.rxReg = Uart.head u.rxFifo

/-- VDU STATUS: "bits 15..1 read 0" (R473). -/
def Vdu.StatusOk (v : Vdu) : Prop := v.status = 0#16 ∨ v.status = 1#16

/-- The engine's counters: a slice always has cycles left, in fours (R500, R505, R506); a frame's cycles fall from 564,480 to 0 in fours, and
only a running engine is inside a frame (R505); the CPU's two counters agree (R562). -/
structure State.CountersOk (s : State) : Prop where
  slice : 0 < s.sliceRemaining ∧ s.sliceRemaining ≤ Config.cyclesPerSlice ∧ s.sliceRemaining % Config.cyclesPerInstruction = 0
  frame : ∀ c, s.cyclesRemaining = some c →
    0 ≤ c ∧ c ≤ Config.cyclesPerFrame ∧ c % Config.cyclesPerInstruction = 0
  idle : s.mode ≠ .running → s.cyclesRemaining = none
  cycles : s.cycles = Config.cyclesPerInstruction * s.instret

/-- "a program polling STATUS never reads b0 = 1": inside a frame vblank is clear (R482). -/
def State.VblankOk (s : State) : Prop := s.cyclesRemaining ≠ none → s.vdu.status = 0#16

/-- The invariant of the machine. -/
structure State.Inv (s : State) : Prop where
  storage : s.StorageOk
  pixels : s.vdu.PixelsOk
  uart : s.uart.Ok
  vduStatus : s.vdu.StatusOk
  counters : s.CountersOk
  vblank : s.VblankOk

end Sys2Proof.Machine
end

