-- ==== Sys2Proof/Certificates/Slice0/Obligations.lean ====
section
/-!
DEFINITION. The statements for the provers. Section 1 is their vocabulary: what it means for an instruction to complete with a result and to
leave everything else as it was. Results are written in integer arithmetic or bit by bit, as the rules give them.
-/

namespace Sys2Proof.Claims

open Sys2Proof.Machine

/-! ## Vocabulary -/

/-- Every byte of memory reads as before. -/
def SameMemory (s t : State) : Prop := ∀ a, t.mem.read a = s.mem.read a

/-- The instruction completes: x[rd] is r, every other general register is as before, the flags are f, the next pc is `next`, and nothing else
changed. -/
def YieldsReg (i : Instr) (s : State) (rd : Reg) (r : Word) (f : Flags) (next : Word) : Prop :=
  ∃ t, exec i s = .next t ∧ t.x rd = r ∧ (∀ j, j ≠ rd → t.x j = s.x j) ∧ t.flags = f ∧ t.pc = next ∧ SameMemory s t
    ∧ t = { s with regs := t.regs, flags := t.flags, pc := t.pc }

/-- The instruction completes with the flags f and the next pc `next`; nothing else changed, no general register among it. -/
def YieldsFlags (i : Instr) (s : State) (f : Flags) (next : Word) : Prop :=
  ∃ t, exec i s = .next t ∧ SameMemory s t ∧ t = { s with flags := f, pc := next }

/-- The instruction completes with CEL, CEH and the next pc; nothing else changed. -/
def YieldsCe (i : Instr) (s : State) (lo hi next : Word) : Prop :=
  ∃ t, exec i s = .next t ∧ SameMemory s t ∧ t = { s with cel := lo, ceh := hi, pc := next }

/-- The instruction completes as a transfer to `target` if `taken`, else by falling through to `fall`; a link form that is taken leaves `fall`
in r3; nothing else changed. -/
def Transfers (i : Instr) (s : State) (taken link : Bool) (target fall : Word) : Prop :=
  ∃ t, exec i s = .next t ∧ t.pc = (if taken then target else fall)
    ∧ (∀ j, t.x j = if taken = true ∧ link = true ∧ j = 3#5 then fall else s.x j)
    ∧ SameMemory s t ∧ t = { s with regs := t.regs, pc := t.pc }

/-- The instruction completes as a load: x[rd] is `ext` of what MemRead gives, every other general register, the flags and memory are as before,
and the rest is as the read left it. -/
def Loads (i : Instr) (s : State) (rd : Reg) (addr : Word) (sz : Size) (ext : Word → Word) (next : Word) : Prop :=
  ∃ t, exec i s = .next t ∧ t.x rd = ext (s.memRead addr sz).1 ∧ (∀ j, j ≠ rd → t.x j = s.x j) ∧ t.flags = s.flags ∧ t.pc = next
    ∧ SameMemory s t ∧ t = { (s.memRead addr sz).2 with regs := t.regs, pc := t.pc }

/-- As `Loads`, and x[ra] is `base`; where rd = ra the loaded value stands. -/
def LoadsAndUpdates (i : Instr) (s : State) (rd ra : Reg) (addr base : Word) (sz : Size) (ext : Word → Word) (next : Word) : Prop :=
  ∃ t, exec i s = .next t ∧ t.x rd = ext (s.memRead addr sz).1 ∧ (ra ≠ rd → t.x ra = base)
    ∧ (∀ j, j ≠ rd → j ≠ ra → t.x j = s.x j) ∧ t.flags = s.flags ∧ t.pc = next
    ∧ SameMemory s t ∧ t = { (s.memRead addr sz).2 with regs := t.regs, pc := t.pc }

/-- What a store of `sz` to `addr` leaves in memory: where `storePlace` gives a place, the bytes of v stand there, lowest first; every byte
outside that place is as before. -/
def StoredIn (s t : State) (addr : Word) (sz : Size) (v : Word) : Prop :=
  (∀ p, storePlace addr sz = some p → ∀ k, k < sz.bytes → t.mem.read (p + k) = v.extractLsb' (8 * k) 8)
    ∧ ∀ a, (∀ p, storePlace addr sz = some p → a < p ∨ p + sz.bytes ≤ a) → t.mem.read a = s.mem.read a

/-- The instruction completes as a store of v: memory as `StoredIn` says, every general register and flag as before, and the rest as MemWrite
leaves it. -/
def Stores (i : Instr) (s : State) (addr : Word) (sz : Size) (v next : Word) : Prop :=
  ∃ t, exec i s = .next t ∧ (s.mem.wf → StoredIn s t addr sz v) ∧ (∀ j, t.x j = s.x j) ∧ t.flags = s.flags
    ∧ t = { s.memWrite addr sz v with pc := next }

/-- As `Stores`, and x[ra] is `base`. -/
def StoresAndUpdates (i : Instr) (s : State) (ra : Reg) (addr base : Word) (sz : Size) (v next : Word) : Prop :=
  ∃ t, exec i s = .next t ∧ (s.mem.wf → StoredIn s t addr sz v) ∧ t.x ra = base ∧ (∀ j, j ≠ ra → t.x j = s.x j)
    ∧ t.flags = s.flags ∧ t = { s.memWrite addr sz v with regs := t.regs, pc := next }

/-- N and Z of a result if CU = 1. -/
def nz (f : Flags) (cu : Bool) (r : Word) : Flags :=
  if cu then { f with n := decide (2 ^ 31 ≤ r.toNat), z := decide (r = 0#32) } else f

/-- N, Z, C and V if CU = 1. -/
def nzcv (f : Flags) (cu : Bool) (r : Word) (c v : Bool) : Flags := if cu then { nz f true r with c := c, v := v } else f

/-- N, Z and C if CU = 1. -/
def nzc (f : Flags) (cu : Bool) (r : Word) (c : Bool) : Flags := if cu then { nz f true r with c := c } else f

/-- The word whose bit i is `b i`. -/
def ofBits (b : Nat → Bool) : Word := (BitVec.iunfoldr (w := 32) (fun i (_ : Unit) => ((), b i.val)) ()).2

/-- An SP-form slot from its fields, as R144 to R176 and R220 to R225 write it: base | rD<<20 | rA<<15 | rB<<10 | CU. -/
def spSlot (base : Word) (rd ra rb : Reg) (cu : Bool) : Word :=
  base ||| (rd.setWidth 32 <<< 20) ||| (ra.setWidth 32 <<< 15) ||| (rb.setWidth 32 <<< 10) ||| (BitVec.ofBool cu).setWidth 32

/-- A slot that decodes to the instruction, whatever pc and T are. -/
def Decodes (slot : Word) (i : Instr) : Prop := ∀ pc1 t, decodeSlot slot pc1 t = .ok i

/-- The instructions that write the accumulator (R35, R226). -/
def writesAccumulator : Instr → Bool
  | .mul _ _ | .mulu _ _ | .div _ _ | .divu _ _ | .mtce _ _ | .mtce16 _ _ _ => true
  | _ => false

/-- The instructions that may write a flag: the rows of R143 whose condition is met. -/
def writesFlags : Instr → Bool
  | .add _ _ _ cu | .addc _ _ _ cu | .sub _ _ _ cu | .subc _ _ _ cu | .neg _ _ cu => cu
  | .and _ _ _ cu | .or _ _ _ cu | .not _ _ cu | .xor _ _ _ cu => cu
  | .bitclr _ _ _ cu | .bitset _ _ _ cu | .bittgl _ _ _ cu => cu
  | .sll _ _ _ cu | .srl _ _ _ cu | .sra _ _ _ cu | .ror _ _ _ cu | .rol _ _ _ cu | .rorc _ _ _ cu | .rolc _ _ _ cu => cu
  | .slli _ _ _ cu | .srli _ _ _ cu | .srai _ _ _ cu | .rori _ _ _ cu | .roli _ _ _ cu | .roric _ _ _ cu | .rolic _ _ _ cu => cu
  | .extsb _ _ cu | .extsh _ _ cu | .extzb _ _ cu | .extzh _ _ cu => cu
  | .cmpCc _ _ _ | .cmpzCc _ _ | .cmpi _ _ | .cmpis _ _ | .cmp16 _ _ _ => true
  | .bittst _ _ | .bittst16 _ _ _ | .tCc _ | .tCc16 _ _ | .rte => true
  | .mtsr sb _ => sb == 0#5
  | _ => false

/-- The instructions that may write a control register: `mtcr`, and those that raise an exception (R28). -/
def writesControl : Instr → Bool
  | .mtcr _ _ | .trapCc _ | .sdbbp | .sdbbp16 _ => true
  | _ => false

/-- The reserved encodings of a 32-bit slot (R116). -/
def reserved32 (slot : Word) : Prop :=
  let op := (slot.toNat / 2 ^ 27) % 32
  let func6 := (slot.toNat / 2) % 64
  let func3 := (slot.toNat / 2 ^ 17) % 8
  let sub := slot.toNat % 256
  op ∈ [0x09, 0x0A, 0x0B, 0x0E, 0x0F]
    ∨ (op = 0 ∧ func6 ∈ [0x01, 0x05, 0x06, 0x07, 0x0E, 0x19, 0x26, 0x27, 0x30, 0x31, 0x32, 0x33, 0x34, 0x35, 0x36, 0x37, 0x39])
    ∨ ((op = 1 ∨ op = 5) ∧ func3 ∈ [1, 3, 7])
    ∨ (op = 6 ∧ sub ∉ [0x00, 0x01, 0x84])

/-- The reserved selectors of a half (R310). -/
def reservedHalf (h : Half) : Prop :=
  let f := (h.toNat / 2 ^ 12) % 8
  let func4 := h.toNat % 16
  let sel := (h.toNat / 16) % 16
  let func3 := h.toNat % 8
  (f = 0 ∧ func4 ∈ [6, 7, 8, 9, 10, 11, 13, 14, 15])
    ∨ (f = 1 ∧ (2 ≤ func4 ∨ 2 ≤ sel))
    ∨ (f = 7 ∧ (func3 = 2 ∨ func3 = 6))

/-- bytes_per_source_pixel (R475). -/
def sourceBytes : Config.VduFormat → Nat
  | .rgba8888 | .argb8888 => 4
  | .rgb565 | .rgb555 => 2

/-- R481 (D35) in integers: component k (0 to 3: R, G, B, A) of the output pixel, from the source bytes `b 0`, `b 1`, … at increasing addresses. -/
def component (f : Config.VduFormat) (b : Nat → Nat) (k : Nat) : Nat :=
  let p := b 0 + 256 * b 1
  let five (c : Nat) : Nat := (c * 255 + 15) / 31
  let six (c : Nat) : Nat := (c * 255 + 31) / 63
  match f with
  | .rgba8888 => b k
  | .argb8888 => b ((k + 1) % 4)
  | .rgb565 => [five (p / 2048 % 32), six (p / 32 % 64), five (p % 32), 255].getD k 0
  | .rgb555 => [five (p / 1024 % 32), five (p / 32 % 32), five (p % 32), 255].getD k 0

/-- The state after one step; the same state where the step does not answer one. -/
def advanced (s : State) : State :=
  match step s with
  | .next t => t
  | .fault _ => s
  | .refused _ => s

/-- A byte of flash (R61). -/
def inFlash (a : Nat) : Prop := 0x9E000000 ≤ a ∧ a < 0x9E000000 + 0x800000

end Sys2Proof.Claims

section Statements

open Sys2Proof Sys2Proof.Machine Sys2Proof.Claims

/-! ## Arithmetic (spec/40_alu.md) -/

/-- R144. -/
def Obligations.AddGivesSumAndFlags : Prop :=
  ∀ (rd ra rb : Reg) (cu : Bool) (s : State),
    Decodes (spSlot 0x00000010#32 rd ra rb cu) (.add rd ra rb cu)
    ∧ YieldsReg (.add rd ra rb cu) s rd (BitVec.ofNat 32 ((s.x ra).toNat + (s.x rb).toNat))
        (nzcv s.flags cu (BitVec.ofNat 32 ((s.x ra).toNat + (s.x rb).toNat))
          (decide ((s.x rb).toNat > 0xFFFFFFFF - (s.x ra).toNat))
          (decide ((s.x ra).toInt + (s.x rb).toInt < -2 ^ 31 ∨ 2 ^ 31 ≤ (s.x ra).toInt + (s.x rb).toInt)))
        (s.pc + 4#32)

/-- R145, R147, R148 (section 2) with R141, R142 (section 1; D10; the rB operand of neg from general knowledge, D3): the carry in, the borrow 1 - C,
and the negation. -/
def Obligations.CarryBorrowAndNegation : Prop :=
  ∀ (rd ra rb : Reg) (cu : Bool) (s : State),
    let a := s.x ra
    let b := s.x rb
    let cin : Nat := s.flags.c.toNat
    let bor : Nat := 1 - s.flags.c.toNat
    let out (v : Int) : Bool := decide (v < -2 ^ 31 ∨ 2 ^ 31 ≤ v)
    let sum : Word := BitVec.ofNat 32 (a.toNat + b.toNat + cin)
    let diff : Word := BitVec.ofInt 32 (a.toNat - b.toNat - bor)
    let minus : Word := BitVec.ofInt 32 (-b.toInt)
    YieldsReg (.addc rd ra rb cu) s rd sum
      (nzcv s.flags cu sum (decide (2 ^ 32 ≤ a.toNat + b.toNat + cin)) (out (a.toInt + b.toInt + cin))) (s.pc + 4#32)
    ∧ YieldsReg (.subc rd ra rb cu) s rd diff
      (nzcv s.flags cu diff (decide (b.toNat + bor ≤ a.toNat)) (out (a.toInt - b.toInt - bor))) (s.pc + 4#32)
    ∧ YieldsReg (.neg rd rb cu) s rd minus
      (nzcv s.flags cu minus (decide (b = 0#32)) (decide (b = 0x80000000#32))) (s.pc + 4#32)

/-- R146. -/
def Obligations.SubGivesDifferenceAndFlags : Prop :=
  ∀ (rd ra rb : Reg) (cu : Bool) (s : State),
    Decodes (spSlot 0x00000014#32 rd ra rb cu) (.sub rd ra rb cu)
    ∧ YieldsReg (.sub rd ra rb cu) s rd (BitVec.ofInt 32 ((s.x ra).toNat - (s.x rb).toNat))
        (nzcv s.flags cu (BitVec.ofInt 32 ((s.x ra).toNat - (s.x rb).toNat))
          (decide ((s.x rb).toNat ≤ (s.x ra).toNat))
          (decide ((s.x ra).toInt - (s.x rb).toInt < -2 ^ 31 ∨ 2 ^ 31 ≤ (s.x ra).toInt - (s.x rb).toInt)))
        (s.pc + 4#32)

/-- R149, R150, R178, R183 (D11), R323 (the 16-bit form and its fall-through: D7): a compare writes N, Z, C, V; cmp and cmpz then set T by the condition on the new flags. -/
def Obligations.CompareWritesFlagsAlone : Prop :=
  ∀ (s : State) (c : Cond) (ra rb : Reg) (imm : BitVec 16) (m : SlotMode),
    let cmp (a b : Word) : Flags := nzcv s.flags true (BitVec.ofInt 32 (a.toNat - b.toNat)) (decide (b.toNat ≤ a.toNat))
      (decide (a.toInt - b.toInt < -2 ^ 31 ∨ 2 ^ 31 ≤ a.toInt - b.toInt))
    let withT (f : Flags) : Flags := { f with t := condHolds c f }
    YieldsFlags (.cmpCc c ra rb) s (withT (cmp (s.x ra) (s.x rb))) (s.pc + 4#32)
    ∧ YieldsFlags (.cmpzCc c ra) s (withT (nzcv s.flags true (s.x ra) true false)) (s.pc + 4#32)
    ∧ YieldsFlags (.cmpi ra imm) s (cmp (s.x ra) (BitVec.ofInt 32 imm.toInt)) (s.pc + 4#32)
    ∧ YieldsFlags (.cmpis ra imm) s (cmp (s.x ra) (BitVec.ofNat 32 (imm.toNat * 2 ^ 16))) (s.pc + 4#32)
    ∧ YieldsFlags (.cmp16 m ra rb) s (cmp (s.x ra) (s.x rb)) (next16 m s.pc)

/-- R151 to R154 (D3), R155 to R158 (D12), R345 (the 16-bit form: D7): the logic and bit instructions, bit by bit; a bit test sets T to the bit and Z to its complement,
and leaves N, C and V. -/
def Obligations.LogicAndBitsActBitByBit : Prop :=
  ∀ (s : State) (m : SlotMode) (rd ra rb : Reg) (bit : BitVec 5) (cu : Bool),
    let a (i : Nat) := (s.x ra).getLsbD i
    let b (i : Nat) := (s.x rb).getLsbD i
    let is (i : Nat) := i == bit.toNat
    let gives (i : Instr) (f : Nat → Bool) := YieldsReg i s rd (ofBits f) (nz s.flags cu (ofBits f)) (s.pc + 4#32)
    let tested : Flags := { s.flags with t := a bit.toNat, z := !a bit.toNat }
    gives (.and rd ra rb cu) (fun i => a i && b i)
    ∧ gives (.or rd ra rb cu) (fun i => a i || b i)
    ∧ gives (.xor rd ra rb cu) (fun i => a i != b i)
    ∧ gives (.not rd ra cu) (fun i => !a i)
    ∧ gives (.bitclr rd ra bit cu) (fun i => a i && !is i)
    ∧ gives (.bitset rd ra bit cu) (fun i => a i || is i)
    ∧ gives (.bittgl rd ra bit cu) (fun i => a i != is i)
    ∧ YieldsFlags (.bittst ra bit) s tested (s.pc + 4#32) ∧ YieldsFlags (.bittst16 m ra bit) s tested (next16 m s.pc)

/-- R159, R160, R161: the three shifts by a register, whose count is x[rB] mod 32. -/
def Obligations.RegisterShiftsAreArithmetic : Prop :=
  ∀ (s : State) (rd ra rb : Reg) (cu : Bool),
    let n := (s.x rb).toNat % 32
    let gives (i : Instr) (r : Word) := YieldsReg i s rd r (nz s.flags cu r) (s.pc + 4#32)
    Decodes (spSlot 0x00000030#32 rd ra rb cu) (.sll rd ra rb cu)
    ∧ gives (.sll rd ra rb cu) (BitVec.ofNat 32 ((s.x ra).toNat * 2 ^ n))
    ∧ Decodes (spSlot 0x00000034#32 rd ra rb cu) (.srl rd ra rb cu)
    ∧ gives (.srl rd ra rb cu) (BitVec.ofNat 32 ((s.x ra).toNat / 2 ^ n))
    ∧ Decodes (spSlot 0x00000036#32 rd ra rb cu) (.sra rd ra rb cu)
    ∧ gives (.sra rd ra rb cu) (BitVec.ofInt 32 ((s.x ra).toInt / 2 ^ n))

/-- R162, R164, R166 to R169, R171 (D3): bit i of a rotate is bit (i + n) mod 32 (right) or (i - n) mod 32 (left) of the operand, and C stays; the
immediate shifts are those of R159 to R161 with the count in the instruction. -/
def Obligations.RotatesAndImmediateShifts : Prop :=
  ∀ (s : State) (rd ra rb : Reg) (imm5 : BitVec 5) (cu : Bool),
    let n := (s.x rb).toNat % 32
    let right (n : Nat) : Word := ofBits fun i => (s.x ra).getLsbD ((i + n) % 32)
    let left (n : Nat) : Word := ofBits fun i => (s.x ra).getLsbD ((i + 32 - n) % 32)
    let gives (i : Instr) (r : Word) := YieldsReg i s rd r (nz s.flags cu r) (s.pc + 4#32)
    gives (.ror rd ra rb cu) (right n) ∧ gives (.rol rd ra rb cu) (left n)
    ∧ gives (.rori rd ra imm5 cu) (right imm5.toNat) ∧ gives (.roli rd ra imm5 cu) (left imm5.toNat)
    ∧ gives (.slli rd ra imm5 cu) (BitVec.ofNat 32 ((s.x ra).toNat * 2 ^ imm5.toNat))
    ∧ gives (.srli rd ra imm5 cu) (BitVec.ofNat 32 ((s.x ra).toNat / 2 ^ imm5.toNat))
    ∧ gives (.srai rd ra imm5 cu) (BitVec.ofInt 32 ((s.x ra).toInt / 2 ^ imm5.toNat))

/-- R163, R165, R170, R172 (D13): a rotation of the 33 bits {C, x[rA]}; the carry that leaves is written only if CU = 1. -/
def Obligations.CarryRotatesAreThirtyThreeBits : Prop :=
  ∀ (s : State) (rd ra rb : Reg) (imm5 : BitVec 5) (cu : Bool),
    let n := (s.x rb).toNat % 32
    let wide (i : Nat) : Bool := if i = 32 then s.flags.c else (s.x ra).getLsbD i
    let right (n i : Nat) : Bool := wide ((i + n) % 33)
    let left (n i : Nat) : Bool := wide ((i + 33 - n) % 33)
    let gives (i : Instr) (f : Nat → Bool) := YieldsReg i s rd (ofBits f) (nzc s.flags cu (ofBits f) (f 32)) (s.pc + 4#32)
    gives (.rorc rd ra rb cu) (right n) ∧ gives (.rolc rd ra rb cu) (left n)
    ∧ gives (.roric rd ra imm5 cu) (right imm5.toNat) ∧ gives (.rolic rd ra imm5 cu) (left imm5.toNat)

/-- R173 to R176: the sign and zero extensions, as integers. -/
def Obligations.ExtensionsKeepTheLowPart : Prop :=
  ∀ (s : State) (rd ra : Reg) (cu : Bool),
    let gives (i : Instr) (r : Word) := YieldsReg i s rd r (nz s.flags cu r) (s.pc + 4#32)
    Decodes (spSlot 0x00000058#32 rd ra 0#5 cu) (.extsb rd ra cu)
    ∧ gives (.extsb rd ra cu) (BitVec.ofInt 32 ((s.x ra).setWidth 8).toInt)
    ∧ Decodes (spSlot 0x0000005A#32 rd ra 0#5 cu) (.extsh rd ra cu)
    ∧ gives (.extsh rd ra cu) (BitVec.ofInt 32 ((s.x ra).setWidth 16).toInt)
    ∧ Decodes (spSlot 0x0000005C#32 rd ra 0#5 cu) (.extzb rd ra cu)
    ∧ gives (.extzb rd ra cu) (BitVec.ofNat 32 ((s.x ra).toNat % 256))
    ∧ Decodes (spSlot 0x0000005E#32 rd ra 0#5 cu) (.extzh rd ra cu)
    ∧ gives (.extzh rd ra cu) (BitVec.ofNat 32 ((s.x ra).toNat % 65536))

/-- R177, R179 to R182, R184 to R189 (D4, D9): the I-form and RI-form instructions; none writes a flag. -/
def Obligations.ImmediateFormsWriteNoFlag : Prop :=
  ∀ (s : State) (rd ra : Reg) (imm16 : BitVec 16) (imm14 : BitVec 14),
    let i : Word := BitVec.ofInt 32 imm16.toInt
    let u : Word := BitVec.ofNat 32 (imm16.toNat * 2 ^ 16)
    let r : Word := BitVec.ofInt 32 imm14.toInt
    let gives (n : Instr) (v : Word) := YieldsReg n s rd v s.flags (s.pc + 4#32)
    gives (.addi rd imm16) (BitVec.ofInt 32 ((s.x rd).toNat + imm16.toInt)) ∧ gives (.andi rd imm16) (s.x rd &&& i)
    ∧ gives (.ori rd imm16) (s.x rd ||| i) ∧ gives (.ldi rd imm16) i
    ∧ gives (.addis rd imm16) (BitVec.ofNat 32 ((s.x rd).toNat + imm16.toNat * 2 ^ 16)) ∧ gives (.andis rd imm16) (s.x rd &&& u)
    ∧ gives (.oris rd imm16) (s.x rd ||| u) ∧ gives (.ldis rd imm16) u
    ∧ gives (.addri rd ra imm14) (BitVec.ofInt 32 ((s.x ra).toNat + imm14.toInt)) ∧ gives (.andri rd ra imm14) (s.x ra &&& r)
    ∧ gives (.orri rd ra imm14) (s.x ra ||| r)

/-- R191: P1, P2 and P3. -/
def Obligations.AluPropertiesP1P2P3 : Prop :=
  (∀ (s : State) (u v : Word), s.x 2#5 = u → s.x 3#5 = v → ∃ t, exec (.add 1#5 2#5 3#5 true) s = .next t
      ∧ (t.x 1#5).toNat = (u.toNat + v.toNat) % 2 ^ 32 ∧ (t.flags.n.toNat = (t.x 1#5).toNat / 2 ^ 31) ∧ (t.flags.z = true ↔ t.x 1#5 = 0#32))
    ∧ (∀ (s : State) (ra : Reg), ∃ t, exec (.sub 1#5 ra ra true) s = .next t ∧ t.x 1#5 = 0#32
      ∧ t.flags = { n := false, z := true, c := true, v := false, t := s.flags.t })
    ∧ ∀ (u : Word) (n : Nat), n < 32 → (shiftLeft u n).toNat = (u.toNat * 2 ^ n) % 2 ^ 32
      ∧ (shiftRightArith u n).getLsbD 31 = u.getLsbD 31 ∧ rotRight (rotLeft u n) n = u

/-- R143 (section 1; D9): no instruction outside the table's rows, and no SP-form row with CU = 0, changes a flag. -/
def Obligations.OnlyTheTableWritesFlags : Prop :=
  ∀ (i : Instr) (s t : State), writesFlags i = false → exec i s = .next t → t.flags = s.flags

/-! ## Multiply, divide, accumulator (spec/41_muldiv_ce.md) -/

/-- R220, R221: the exact 64-bit products. -/
def Obligations.ProductsAreExact : Prop :=
  ∀ (s : State) (ra rb rd : Reg) (cu : Bool),
    Decodes (spSlot 0x00000040#32 rd ra rb cu) (.mul ra rb)
    ∧ (∃ lo hi, YieldsCe (.mul ra rb) s lo hi (s.pc + 4#32) ∧ (hi ++ lo).toInt = (s.x ra).toInt * (s.x rb).toInt)
    ∧ Decodes (spSlot 0x00000042#32 rd ra rb cu) (.mulu ra rb)
    ∧ ∃ lo hi, YieldsCe (.mulu ra rb) s lo hi (s.pc + 4#32) ∧ (hi ++ lo).toNat = (s.x ra).toNat * (s.x rb).toNat

/-- R222 (D14), R223, R226: a signed quotient rounded toward zero with a remainder of the dividend's sign, an unsigned quotient and remainder, and a
zero divisor that changes nothing. -/
def Obligations.DivisionTruncatesTowardZero : Prop :=
  ∀ (s : State) (ra rb : Reg),
    let n := (s.x ra).toInt
    let d := (s.x rb).toInt
    let nx := s.pc + 4#32
    (s.x rb = 0#32 → YieldsCe (.div ra rb) s s.cel s.ceh nx ∧ YieldsCe (.divu ra rb) s s.cel s.ceh nx)
    ∧ (s.x rb ≠ 0#32 →
      (∃ q r : Int, YieldsCe (.div ra rb) s (BitVec.ofInt 32 q) (BitVec.ofInt 32 r) nx
        ∧ n = q * d + r ∧ |r| < |d| ∧ (r = 0 ∨ (r < 0 ↔ n < 0)))
      ∧ ∃ lo hi, YieldsCe (.divu ra rb) s lo hi nx ∧ lo.toNat * (s.x rb).toNat + hi.toNat = (s.x ra).toNat ∧ hi.toNat < (s.x rb).toNat)

/-- R224, R225 (D15), R317, R318: the accumulator transfers, for every selector. -/
def Obligations.AccumulatorTransfers : Prop :=
  ∀ (s : State) (m : SlotMode) (rd : Reg),
    let nx := s.pc + 4#32
    YieldsFlags (.mfce rd 0#2) s s.flags nx ∧ YieldsReg (.mfce rd 1#2) s rd s.cel s.flags nx
    ∧ YieldsReg (.mfce rd 2#2) s rd s.ceh s.flags nx
    ∧ (∃ t, exec (.mfce rd 3#2) s = .next t ∧ t.x rd = s.cel ∧ t.x (BitVec.ofNat 5 (rd.toNat + 1)) = s.ceh
        ∧ (∀ j, j ≠ rd → j.toNat ≠ (rd.toNat + 1) % 32 → t.x j = s.x j) ∧ SameMemory s t ∧ t = { s with regs := t.regs, pc := nx })
    ∧ YieldsCe (.mtce rd 0#2) s s.cel s.ceh nx ∧ YieldsCe (.mtce rd 1#2) s (s.x rd) s.ceh nx
    ∧ YieldsCe (.mtce rd 2#2) s s.cel (s.x rd) nx
    ∧ YieldsCe (.mtce rd 3#2) s (s.x rd) (s.x (BitVec.ofNat 5 (rd.toNat + 1))) nx
    ∧ YieldsCe (.mtce16 m rd .cel) s (s.x rd) s.ceh (next16 m s.pc) ∧ YieldsCe (.mtce16 m rd .ceh) s s.cel (s.x rd) (next16 m s.pc)
    ∧ YieldsReg (.mfce16 m rd .cel) s rd s.cel s.flags (next16 m s.pc)
    ∧ YieldsReg (.mfce16 m rd .ceh) s rd s.ceh s.flags (next16 m s.pc)

/-- R226: "Results stay in CEL/CEH until the next mul, mulu, div, divu, mtce or mtce!"; no other instruction and no exception entry changes them. -/
def Obligations.OnlySixInstructionsWriteCe : Prop :=
  (∀ (i : Instr) (s t : State), writesAccumulator i = false → exec i s = .next t → t.cel = s.cel ∧ t.ceh = s.ceh)
    ∧ ∀ (c : Cause) (s : State), (s.enter c).cel = s.cel ∧ (s.enter c).ceh = s.ceh

/-! ## Control transfer (spec/42_control.md, spec/45_compact16.md) -/

/-- R25: the table of conditions, row for row, with their codes. -/
def Obligations.ConditionTable : Prop :=
  ∀ f : Flags,
    let holds (code : Nat) (p : Prop) : Prop := condHolds (Cond.ofBits (BitVec.ofNat 4 code)) f = true ↔ p
    holds 0 (f.c = true) ∧ holds 1 (f.c = false) ∧ holds 2 (f.c = true ∧ f.z = false) ∧ holds 3 (f.c = false ∨ f.z = true)
    ∧ holds 4 (f.z = true) ∧ holds 5 (f.z = false) ∧ holds 6 (f.n = f.v ∧ f.z = false) ∧ holds 7 (f.n ≠ f.v ∨ f.z = true)
    ∧ holds 8 (f.n = f.v) ∧ holds 9 (f.n ≠ f.v) ∧ holds 10 (f.n = true) ∧ holds 11 (f.n = false)
    ∧ holds 12 (f.v = true) ∧ holds 13 (f.v = false) ∧ holds 14 (f.t = true) ∧ holds 15 True

/-- R240, R241: the upper seven bits of pc stay, the low 25 are the displacement and a 0; jl leaves pc + 4 in r3. -/
def Obligations.JumpsReplaceLowBits : Prop :=
  ∀ (s : State) (disp : BitVec 24),
    let target : Word := BitVec.ofNat 32 (s.pc.toNat / 2 ^ 25 * 2 ^ 25 + disp.toNat * 2)
    Decodes (0x10000000#32 ||| (disp.setWidth 32 <<< 1)) (.j disp)
    ∧ Transfers (.j disp) s true false target (s.pc + 4#32)
    ∧ Decodes (0x10000001#32 ||| (disp.setWidth 32 <<< 1)) (.jl disp)
    ∧ Transfers (.jl disp) s true true target (s.pc + 4#32)

/-- R242 (D2), R243 to R245 (D16), R315, R316, R336 to R338, R354 (D6, D7): the conditional, register and 16-bit transfers; a link form reads its
register before r3 is written. -/
def Obligations.TransfersTakeTheirCondition : Prop :=
  ∀ (s : State) (m : SlotMode) (c : Cond) (disp : BitVec 22) (ra : Reg) (d11 : BitVec 11) (d8 : BitVec 8),
    let holds := condHolds c s.flags
    let target : Word := BitVec.ofInt 32 (s.pc.toNat + 2 * disp.toInt)
    let page : Word := BitVec.ofNat 32 (s.pc.toNat / 2 ^ 12 * 2 ^ 12 + d11.toNat * 2)
    let near : Word := BitVec.ofInt 32 (s.pc.toNat + 2 * d8.toInt)
    let fall : Word := match m with
      | .single => s.pc + 2#32
      | .parallel => BitVec.ofNat 32 (s.pc.toNat / 4 * 4 + 4)
    Transfers (.bCc c disp) s holds false target (s.pc + 4#32) ∧ Transfers (.bCcL c disp) s holds true target (s.pc + 4#32)
    ∧ Transfers (.brCc c ra) s holds false (s.x ra) (s.pc + 4#32) ∧ Transfers (.brCcL c ra) s holds true (s.x ra) (s.pc + 4#32)
    ∧ Transfers (.j16 m d11) s true false page fall ∧ Transfers (.jl16 m d11) s true true page fall
    ∧ Transfers (.bCc16 m c d8) s holds false near fall
    ∧ Transfers (.brCc16 m c ra) s holds false (s.x ra) fall ∧ Transfers (.brCcL16 m c ra) s holds true (s.x ra) fall

/-- R246, R247, R319 (D3, D7): t{cc} writes T alone; mv{cc} writes rD only when its condition holds. -/
def Obligations.ConditionalSetAndMove : Prop :=
  ∀ (s : State) (m : SlotMode) (c : Cond) (rd ra : Reg),
    YieldsFlags (.tCc c) s { s.flags with t := condHolds c s.flags } (s.pc + 4#32)
    ∧ YieldsFlags (.tCc16 m c) s { s.flags with t := condHolds c s.flags } (next16 m s.pc)
    ∧ YieldsReg (.mvCc c rd ra) s rd (if condHolds c s.flags then s.x ra else s.x rd) s.flags (s.pc + 4#32)

/-! ## Loads and stores (spec/43_loadstore.md, spec/45_compact16.md) -/

/-- R260 to R264, R267, R277 to R280, R283 (D4), R328, R330, R331, R347 to R349 (D7, D8): the loads without write-back; ea is the sum modulo 2^32,
sp is r29 and its offset is scaled by the width. -/
def Obligations.LoadsExtendWhatMemReadGives : Prop :=
  ∀ (s : State) (m : SlotMode) (rd ra : Reg) (imm15 : BitVec 15) (imm12 : BitVec 12) (imm5 : BitVec 5),
    let e15 : Word := BitVec.ofInt 32 ((s.x ra).toNat + imm15.toInt)
    let e12 : Word := BitVec.ofInt 32 ((s.x ra).toNat + imm12.toInt)
    let sp (k : Nat) : Word := BitVec.ofNat 32 ((s.x 29#5).toNat + k * imm5.toNat)
    let nx := s.pc + 4#32
    let nh := next16 m s.pc
    let sh (v : Word) : Word := BitVec.ofInt 32 (v.setWidth 16).toInt
    let sb (v : Word) : Word := BitVec.ofInt 32 (v.setWidth 8).toInt
    Loads (.lw rd ra imm15) s rd e15 .word id nx ∧ Loads (.lh rd ra imm15) s rd e15 .half sh nx
    ∧ Loads (.lhu rd ra imm15) s rd e15 .half id nx ∧ Loads (.lb rd ra imm15) s rd e15 .byte sb nx
    ∧ Loads (.lbu rd ra imm15) s rd e15 .byte id nx
    ∧ Loads (.lwRix rd ra imm12) s rd e12 .word id nx ∧ Loads (.lhRix rd ra imm12) s rd e12 .half sh nx
    ∧ Loads (.lhuRix rd ra imm12) s rd e12 .half id nx ∧ Loads (.lbRix rd ra imm12) s rd e12 .byte sb nx
    ∧ Loads (.lbuRix rd ra imm12) s rd e12 .byte id nx
    ∧ Loads (.lw16 m rd ra) s rd (s.x ra) .word id nh ∧ Loads (.lh16 m rd ra) s rd (s.x ra) .half sh nh
    ∧ Loads (.lbu16 m rd ra) s rd (s.x ra) .byte id nh
    ∧ Loads (.lwp16 m rd imm5) s rd (sp 4) .word id nh ∧ Loads (.lhp16 m rd imm5) s rd (sp 2) .half sh nh
    ∧ Loads (.lbup16 m rd imm5) s rd (sp 1) .byte id nh

/-- R269 to R276, R329, R333 (D4, D7, D17): the accesses with write-back, pop! and push!: the base register takes the new address; a loaded value
wins over it, and a store stores the old value of rD. -/
def Obligations.UpdatingAccessesWriteTheBase : Prop :=
  ∀ (s : State) (m : SlotMode) (rd ra : Reg) (imm12 : BitVec 12),
    let ea : Word := BitVec.ofInt 32 ((s.x ra).toNat + imm12.toInt)
    let nx := s.pc + 4#32
    let sh (v : Word) : Word := BitVec.ofInt 32 (v.setWidth 16).toInt
    let sb (v : Word) : Word := BitVec.ofInt 32 (v.setWidth 8).toInt
    LoadsAndUpdates (.lwPre rd ra imm12) s rd ra ea ea .word id nx
    ∧ LoadsAndUpdates (.lhPre rd ra imm12) s rd ra ea ea .half sh nx
    ∧ LoadsAndUpdates (.lhuPre rd ra imm12) s rd ra ea ea .half id nx
    ∧ LoadsAndUpdates (.lbPre rd ra imm12) s rd ra ea ea .byte sb nx
    ∧ LoadsAndUpdates (.lbuPre rd ra imm12) s rd ra ea ea .byte id nx
    ∧ LoadsAndUpdates (.pop16 m rd ra) s rd ra (s.x ra) (s.x ra + 4#32) .word id (next16 m s.pc)
    ∧ StoresAndUpdates (.swPre rd ra imm12) s ra ea ea .word (s.x rd) nx
    ∧ StoresAndUpdates (.shPre rd ra imm12) s ra ea ea .half (s.x rd) nx
    ∧ StoresAndUpdates (.sbPre rd ra imm12) s ra ea ea .byte (s.x rd) nx
    ∧ StoresAndUpdates (.push16 m rd ra) s ra (s.x ra - 4#32) (s.x ra - 4#32) .word (s.x rd) (next16 m s.pc)

/-- R260, R265, R266, R268, R281, R282, R284 (D4), R332, R334, R335, R350 to R352 (D7, D8): the stores without write-back, and where they land. -/
def Obligations.StoresWriteTheirPlaceAlone : Prop :=
  ∀ (s : State) (m : SlotMode) (rd ra : Reg) (imm15 : BitVec 15) (imm12 : BitVec 12) (imm5 : BitVec 5),
    let e15 : Word := BitVec.ofInt 32 ((s.x ra).toNat + imm15.toInt)
    let e12 : Word := BitVec.ofInt 32 ((s.x ra).toNat + imm12.toInt)
    let sp (k : Nat) : Word := BitVec.ofNat 32 ((s.x 29#5).toNat + k * imm5.toNat)
    let v := s.x rd
    let nx := s.pc + 4#32
    let nh := next16 m s.pc
    Stores (.sw rd ra imm15) s e15 .word v nx ∧ Stores (.sh rd ra imm15) s e15 .half v nx ∧ Stores (.sb rd ra imm15) s e15 .byte v nx
    ∧ Stores (.swRix rd ra imm12) s e12 .word v nx ∧ Stores (.shRix rd ra imm12) s e12 .half v nx
    ∧ Stores (.sbRix rd ra imm12) s e12 .byte v nx
    ∧ Stores (.sw16 m rd ra) s (s.x ra) .word v nh ∧ Stores (.sh16 m rd ra) s (s.x ra) .half v nh
    ∧ Stores (.sb16 m rd ra) s (s.x ra) .byte v nh
    ∧ Stores (.swp16 m rd imm5) s (sp 4) .word v nh ∧ Stores (.shp16 m rd imm5) s (sp 2) .half v nh
    ∧ Stores (.sbp16 m rd imm5) s (sp 1) .byte v nh

/-! ## Memory (spec/20_memory.md) -/

/-- R63: the segments other than 0x08, 0x9E and 0xA0 read 0, drop writes and count; a fetch there is a nop. -/
def Obligations.UnmappedSegmentsReadZeroAndCount : Prop :=
  ∀ (s : State) (addr v : Word) (sz : Size),
    addr.toNat / 2 ^ 24 ≠ 0x08 → addr.toNat / 2 ^ 24 ≠ 0x9E → addr.toNat / 2 ^ 24 ≠ 0xA0 →
      s.memRead addr sz = (0#32, { s with unmappedCount := s.unmappedCount + 1 })
      ∧ s.memWrite addr sz v = { s with unmappedCount := s.unmappedCount + 1 }
      ∧ ∀ pc1 t, decodeSlot (s.memRead addr .word).1 pc1 t = .ok .nop

/-- R66: a misaligned access is the aligned access to the containing halfword or word, and so is a fetch. -/
def Obligations.MisalignedIsTheContainingUnit : Prop :=
  ∀ (s : State) (addr v : Word) (sz : Size),
    s.memRead addr sz = s.memRead (BitVec.ofNat 32 (addr.toNat / sz.bytes * sz.bytes)) sz
    ∧ s.memWrite addr sz v = s.memWrite (BitVec.ofNat 32 (addr.toNat / sz.bytes * sz.bytes)) sz v
    ∧ s.fetch = s.memRead s.pc .word ∧ s.fetch = s.memRead (BitVec.ofNat 32 (s.pc.toNat / 4 * 4)) .word

/-- R65, R67 (D28), R75: a read inside flash or DRAM is the little-endian number its bytes make, and changes nothing; past the 8 MiB of flash a read
gives 0, a write is dropped, and neither is counted. -/
def Obligations.BackingReadsAreLittleEndian : Prop :=
  ∀ (s : State) (addr v : Word) (sz : Size),
    ((0x9E000000 ≤ addr.toNat ∧ addr.toNat < 0x9E800000) ∨ (0xA0000000 ≤ addr.toNat ∧ addr.toNat < 0xA1000000) →
      let a := addr.toNat / sz.bytes * sz.bytes
      (s.memRead addr sz).2 = s
      ∧ (s.memRead addr sz).1.toNat = ((List.range sz.bytes).map fun k => (s.mem.read (a + k)).toNat * 256 ^ k).sum)
    ∧ (0x9E800000 ≤ addr.toNat ∧ addr.toNat < 0x9F000000 → s.memRead addr sz = (0#32, s) ∧ s.memWrite addr sz v = s)

/-- R87: P4 for a writable backing-array region (flash is not one: D29), and P5 for a word of the MMIO region, whose old word is obtained through the
reader, with the reader's side effect (R71: D27). -/
def Obligations.WorkedMemoryLawsP4P5 : Prop :=
  (∀ (b : Config.Backing) (m : Memory) (off : BitVec 24) (w : Word), m.wf → b.readOnly = false → b.size % 4 = 0 → off.toNat % 4 = 0 →
      off.toNat < b.size → b.size ≤ 0x1000000 →
      let m' := backingWrite b m off .word w
      backingRead b m' off .word = w
      ∧ ∀ k : BitVec 24, k.toNat < 4 → backingRead b m' (off + k) .byte = (w.extractLsb' (8 * k.toNat) 8).setWidth 32)
    ∧ ∀ (s : State) (off : BitVec 24) (v : Word),
      let p := mmioRead (mmioWord (wordIndex off)) s
      ∃ merged : Word, mmioStore off .byte v s = mmioWrite (mmioWord (wordIndex off)) merged p.2
        ∧ ∀ k, k < 4 → merged.extractLsb' (8 * k) 8
            = if k = off.toNat % 4 then v.extractLsb' 0 8 else p.1.extractLsb' (8 * k) 8

/-- R72: a word index with no handler is one storage cell: it is 0 at reset, it reads back what was last written, reading it changes nothing, and
writing it changes no byte outside its own four and nothing else. -/
def Obligations.FallbackCellsReadBack : Prop :=
  ∀ (s : State) (off : BitVec 24) (v : Word) (i : BitVec 16), mmioWord (wordIndex off) = .cell i → s.mem.wf →
    (mmioLoad off .word State.reset).1 = 0#32
    ∧ mmioLoad off .word (mmioStore off .word v s) = (v, mmioStore off .word v s)
    ∧ ∀ sz : Size,
      let t := mmioStore off sz v s
      (mmioLoad off sz s).2 = s
      ∧ (∀ a, a < cellAddress i ∨ cellAddress i + 4 ≤ a → t.mem.read a = s.mem.read a)
      ∧ t = { s with mem := t.mem }

/-- R86 (D25): the I/O image repeats every 256 KiB of segment 0x08. -/
def Obligations.IoImageIsMirrored : Prop :=
  ∀ (s : State) (addr v : Word) (sz : Size) (k : Nat), addr.toNat / 2 ^ 24 = 0x08 → addr.toNat % 2 ^ 24 + k * 0x40000 < 2 ^ 24 →
    let other : Word := BitVec.ofNat 32 (addr.toNat + k * 0x40000)
    s.memRead other sz = s.memRead addr sz ∧ s.memWrite other sz v = s.memWrite addr sz v

/-- R68 (D29), R552: no step of the machine changes a byte of flash. -/
def Obligations.NoStepWritesFlash : Prop :=
  ∀ (s t : State), step s = .next t → ∀ a, inFlash a → t.mem.read a = s.mem.read a

/-! ## System instructions and exceptions (spec/44_system.md, spec/60_exceptions.md) -/

/-- R290: any slot with OP 0 and func6 0 is nop, a fetch from an unmapped segment gives one, nop only advances, and the rule's example S1. -/
def Obligations.NopOnlyAdvances : Prop :=
  (∀ (s : State) (slot addr : Word),
    (slot.extractLsb' 27 5 = 0#5 → slot.extractLsb' 1 6 = 0#6 → Decodes slot .nop)
    ∧ (Config.regionOf (segmentOf addr) = none → Decodes (s.memRead addr .word).1 .nop)
    ∧ YieldsFlags .nop s s.flags (s.pc + 4#32))
  ∧ ∀ s : State, s.halted = false → s.pc = 0x9E000000#32 → (∀ k, k < 4 → s.mem.read (0x9E000000 + k) = 0#8) →
    s.cpuStep = .next { s with pc := 0x9E000004#32, cycles := s.cycles + 4, instret := s.instret + 1 }

/-- R26: the sr0 image. -/
def Obligations.FlagImagePacksAndUnpacks : Prop :=
  (∀ f : Flags, f.pack.toNat = f.n.toNat * 2 ^ 31 + f.z.toNat * 2 ^ 30 + f.c.toNat * 2 ^ 29 + f.v.toNat * 2 ^ 28 + f.t.toNat
      ∧ Flags.unpack f.pack = f)
    ∧ ∀ v : Word, Flags.unpack v = { n := v.getLsbD 31, z := v.getLsbD 30, c := v.getLsbD 29, v := v.getLsbD 28, t := v.getLsbD 0 }
      ∧ (Flags.unpack v).pack = v &&& 0xF0000001#32

/-- R27 (D22), R291, R292, R28, R293, R294 (D3, D5): sr0 is the packed flags and sr1 to sr31 are storage; every control register is storage to
mfcr and mtcr. -/
def Obligations.SpecialRegisterMoves : Prop :=
  ∀ (s : State) (rd ra sb : Reg),
    let nx := s.pc + 4#32
    YieldsReg (.mfsr rd 0#5) s rd s.flags.pack s.flags nx
    ∧ (sb ≠ 0#5 → YieldsReg (.mfsr rd sb) s rd (s.sr sb) s.flags nx)
    ∧ YieldsFlags (.mtsr 0#5 ra) s (Flags.unpack (s.x ra)) nx
    ∧ (sb ≠ 0#5 → ∃ t, exec (.mtsr sb ra) s = .next t ∧ t.sr sb = s.x ra ∧ (∀ j, j ≠ sb → t.sr j = s.sr j)
        ∧ SameMemory s t ∧ t = { s with sysRegs := t.sysRegs, pc := nx })
    ∧ YieldsReg (.mfcr rd sb) s rd (s.cr sb) s.flags nx
    ∧ ∃ t, exec (.mtcr rd sb) s = .next t ∧ t.cr sb = s.x rd ∧ (∀ j, j ≠ sb → t.cr j = s.cr j)
        ∧ SameMemory s t ∧ t = { s with ctlRegs := t.ctlRegs, pc := nx }

/-- R401, with P9. -/
def Obligations.EntrySavesAndVectors : Prop :=
  ∀ (s : State) (c : Cause),
    let t := s.enter c
    t.cr 1#5 = s.flags.pack ∧ t.cr 2#5 = (s.cr 2#5 &&& 0xFF03FFFF#32) ||| (c.setWidth 32 <<< 18) ∧ t.cr 5#5 = s.pc
    ∧ t.cr 0#5 = s.cr 0#5 &&& 0xFFFFFFFE#32 ∧ t.pc = BitVec.ofNat 32 ((s.cr 3#5).toNat + 4 * c.toNat)
    ∧ (t.sr 0#5 = t.cr 1#5)
    ∧ (∀ j : Reg, j ∉ [0#5, 1#5, 2#5, 5#5] → t.cr j = s.cr j)
    ∧ t = { s with ctlRegs := t.ctlRegs, pc := t.pc }

/-- R295, R403 (D21), R47 (I3): `rte` restores the flags and pc from cr1 and cr5 and nothing else; after an entry it restores them exactly. -/
def Obligations.RteRestoresFlagsAndPc : Prop :=
  (∀ s : State, YieldsFlags .rte s (Flags.unpack (s.cr 1#5)) (s.cr 5#5))
    ∧ ∀ (s : State) (c : Cause), YieldsFlags .rte (s.enter c) s.flags s.pc

/-- R296, R297, R341, R402 (D3, D18, D19): the breakpoint instructions always enter with cause 32; a trap whose condition holds enters with cause
33, and is otherwise a no-op. -/
def Obligations.TrapsAndBreakpointsEnter : Prop :=
  ∀ (s : State) (m : SlotMode) (c : Cond),
    exec .sdbbp s = .next (s.enter 32#6) ∧ exec (.sdbbp16 m) s = .next (s.enter 32#6)
    ∧ (condHolds c s.flags = true → exec (.trapCc c) s = .next (s.enter 33#6))
    ∧ (condHolds c s.flags = false → YieldsFlags (.trapCc c) s s.flags (s.pc + 4#32))

/-- R37, R27, R28, R521: what no instruction changes: the counters, `halted`, the engine; the system registers but by mtsr, the control registers
but by mtcr and by raising an exception. -/
def Obligations.InstructionsLeaveTheRest : Prop :=
  ∀ (i : Instr) (s t : State), exec i s = .next t →
    t = { s with
      regs := t.regs, pc := t.pc, flags := t.flags, sysRegs := t.sysRegs, ctlRegs := t.ctlRegs, cel := t.cel, ceh := t.ceh,
      mem := t.mem, unmappedCount := t.unmappedCount, intc := t.intc, timers := t.timers, uart := t.uart, vdu := t.vdu }
    ∧ ((∀ sb ra, i ≠ .mtsr sb ra) → t.sysRegs = s.sysRegs)
    ∧ (writesControl i = false → t.ctlRegs = s.ctlRegs)

/-- R406, with P6; the gate of step 2 is that of R407 (D20). -/
def Obligations.TriggerLatchesThenGates : Prop :=
  ∀ (s : State) (n : BitVec 5),
    let t := s.trigger n
    let latched : State := { s with intc := { s.intc with status := s.intc.status ||| BitVec.ofNat 32 (2 ^ n.toNat) } }
    t.intc.status.getLsbD n.toNat = true
    ∧ (s.intc.mask.getLsbD n.toNat = false → t = latched)
    ∧ ((s.cr 0#5).getLsbD 0 = false → t = latched)
    ∧ (s.intc.mask.getLsbD n.toNat = true → (s.cr 0#5).getLsbD 0 = true → t = latched.enter (BitVec.ofNat 6 n.toNat))

/-- R405, with P7: the interrupt controller's four words, and their bytes and halfwords as lanes of the word. -/
def Obligations.InterruptControllerRegisters : Prop :=
  ∀ (s : State) (v : Word),
    s.memRead 0x080A0000#32 .word = (s.intc.mask, s) ∧ s.memRead 0x080A0004#32 .word = (s.intc.prio, s)
    ∧ s.memRead 0x080A0008#32 .word = (s.intc.status, s) ∧ s.memRead 0x080A000C#32 .word = (0#32, s)
    ∧ s.memWrite 0x080A0000#32 .word v = { s with intc := { s.intc with mask := v } }
    ∧ s.memWrite 0x080A0004#32 .word v = { s with intc := { s.intc with prio := v } }
    ∧ s.memWrite 0x080A0008#32 .word v = s
    ∧ s.memWrite 0x080A000C#32 .word v = { s with intc := { s.intc with status := s.intc.status &&& ~~~v } }
    ∧ (∀ b : Nat, b < 4 → s.memWrite (0x080A0008#32 + BitVec.ofNat 32 b) .byte v = s
        ∧ s.memWrite (0x080A000C#32 + BitVec.ofNat 32 b) .byte v
            = { s with intc := { s.intc with status := s.intc.status &&& ~~~((v &&& 0xFF#32) <<< (8 * b)) } })
    ∧ (∀ (a : Word) (sz : Size), a.toNat / 16 = 0x080A000 →
        s.memWrite a sz v = mmioWrite (mmioWord (wordIndex (offsetOf a)))
          (mergeLane (s.memRead (a &&& 0xFFFFFFFC#32) .word).1 (offsetOf a) sz v) s
        ∧ s.memRead a sz = (BitVec.ofNat 32 ((s.memRead (a &&& 0xFFFFFFFC#32) .word).1.toNat
            / 256 ^ (a.toNat % 4 / sz.bytes * sz.bytes) % 256 ^ sz.bytes), s))
    ∧ State.reset.intc = { mask := 0#32, prio := 0#32, status := 0#32 }

/-! ## Devices (spec/61_devices.md) -/

/-- R447: one logical tick of a channel. -/
def Obligations.TimerTickArithmeticThenCompare : Prop :=
  ∀ (s : State) (k : ChannelId),
    let c := s.timers.get k
    let down := c.ctrl.getLsbD 1
    let again := c.ctrl.getLsbD 2
    let count : Word := if down then (if c.count = 0#32 then (if again then c.cmp else 0#32) else c.count - 1#32)
      else BitVec.ofNat 32 (c.count.toNat + 1)
    let ovf : Bool := c.overflow || (if down then decide (c.count = 0#32) else decide (count = 0#32))
    let hit : Bool := decide (count = c.cmp)
    let stops : Bool := !again && (hit || (down && decide (c.count = 0#32)))
    let c' : TimerChannel := { c with
      count := count, overflow := ovf, compareHit := c.compareHit || hit
      ctrl := if stops then c.ctrl &&& ~~~1#32 else c.ctrl }
    let t : State := { s with timers := s.timers.set k c' }
    s.tickChannel k = if hit && c.ctrl.getLsbD 3 then t.trigger 5#5 else t

/-- R449 (P8), R446 (D31): a count-up channel fed with exactly C periods from 0 hits its compare value once. -/
def Obligations.TimerHitsCompareOnce : Prop :=
  ∀ (s : State) (k : ChannelId),
    let c := s.timers.get k
    c.ctrl.getLsbD 0 = true → c.ctrl.getLsbD 1 = false → c.ctrl.getLsbD 3 = true → c.count = 0#32 → c.cyclesUntilTick = 0 → c.cmp ≠ 0#32 →
      s.feedChannel k (c.cmp.toNat * 2 ^ (c.ctrl.toNat / 32 % 8)) =
        ({ s with timers := s.timers.set k { c with
            count := c.cmp, compareHit := true
            ctrl := if c.ctrl.getLsbD 2 then c.ctrl else c.ctrl &&& ~~~1#32 } } : State).trigger 5#5

/-- R74 (D24), R440: timer channel 0 has no address, so from reset no step changes it. -/
def Obligations.ChannelZeroStaysAtReset : Prop :=
  ∀ (s t : State), s.timers.ch0 = TimerChannel.reset → step s = .next t → t.timers.ch0 = TimerChannel.reset

/-- R440 to R444 (D24, D30, D31), R471 to R474 (D37): the register words of timer channels 1 and 2 with STAT's clear strobe, and the two words of the
VDU, whose STATUS half is read-only. -/
def Obligations.TimerAndVduRegisterWords : Prop :=
  ∀ (s : State) (v : Word),
    let words (base : Word) (c : TimerChannel) (put : TimerChannel → State) : Prop :=
      s.memRead base .word = (c.count, s) ∧ s.memWrite base .word v = put { c with count := v }
      ∧ s.memRead (base + 4#32) .word = (c.ctrl, s) ∧ s.memWrite (base + 4#32) .word v = put { c with ctrl := v }
      ∧ s.memRead (base + 8#32) .word = (c.cmp, s) ∧ s.memWrite (base + 8#32) .word v = put { c with cmp := v }
      ∧ s.memRead (base + 12#32) .word = (BitVec.ofNat 32 (2 * c.overflow.toNat + c.compareHit.toNat), s)
      ∧ s.memWrite (base + 12#32) .word v = put (if v.getLsbD 7 then { c with compareHit := false, overflow := false } else c)
    words 0x080A0010#32 s.timers.ch1 (fun c => { s with timers := { s.timers with ch1 := c } })
    ∧ words 0x080A0020#32 s.timers.ch2 (fun c => { s with timers := { s.timers with ch2 := c } })
    ∧ s.memRead 0x080C0000#32 .word = (BitVec.ofNat 32 (s.vdu.status.toNat * 2 ^ 16 + s.vdu.ctrl.toNat), s)
    ∧ s.memWrite 0x080C0000#32 .word v = { s with vdu := { s.vdu with ctrl := v.setWidth 16 } }
    ∧ s.memWrite 0x080C0000#32 .half v = { s with vdu := { s.vdu with ctrl := v.setWidth 16 } }
    ∧ s.memWrite 0x080C0002#32 .half v = s
    ∧ s.memRead 0x080C0004#32 .word = (BitVec.ofNat 32 (s.vdu.fbAddrLow.toNat * 2 ^ 16 + s.vdu.fbAddrHigh.toNat), s)
    ∧ s.memWrite 0x080C0004#32 .word v
      = { s with vdu := { s.vdu with fbAddrHigh := v.setWidth 16, fbAddrLow := BitVec.ofNat 16 (v.toNat / 2 ^ 16) } }
    ∧ s.memWrite 0x080C0004#32 .half v = { s with vdu := { s.vdu with fbAddrHigh := v.setWidth 16 } }
    ∧ s.memWrite 0x080C0006#32 .half v = { s with vdu := { s.vdu with fbAddrLow := v.setWidth 16 } }

/-- R456, R457, R459, R461 to R464 (D33, D34), R73 (D26): receiving keeps the order of the bytes and RX-ready; transmitting appends; CTRL and BAUD are
storage, STATUS is read-only, and the words of the range that hold no register read 0 and ignore writes; a drain gives and empties the transmit log. -/
def Obligations.UartQueuesInOrder : Prop :=
  (∀ (s : State) (bytes : List Byte), s.uart.Ok →
      let t := bytes.foldl State.enqueueRx s
      t.uart.rxFifo = s.uart.rxFifo ++ bytes ∧ t.uart.Ok)
    ∧ (∀ (s : State) (b : Byte) (rest : List Byte), s.uart.Ok → s.uart.rxFifo = b :: rest →
      (s.memRead 0x080B0000#32 .word).1 = b.setWidth 32
      ∧ (s.memRead 0x080B0000#32 .word).2.uart = { s.uart with
          rxFifo := rest, rxReg := Uart.head rest, status := if rest = [] then 0x90#32 else 0xD0#32 })
    ∧ (∀ s : State, s.uart.rxFifo = [] → s.memRead 0x080B0000#32 .word = (0#32, s))
    ∧ ∀ (s : State) (v : Word), s.memWrite 0x080B0000#32 .word v
      = { s with uart := { s.uart with txLog := s.uart.txLog ++ [v.setWidth 8] } }
      ∧ s.drainTx = (s.uart.txLog, { s with uart := { s.uart with txLog := [] } })
      ∧ s.memRead 0x080B0008#32 .word = (s.uart.ctrl, s) ∧ s.memWrite 0x080B0008#32 .word v = { s with uart := { s.uart with ctrl := v } }
      ∧ s.memRead 0x080B0010#32 .word = (s.uart.baud, s) ∧ s.memWrite 0x080B0010#32 .word v = { s with uart := { s.uart with baud := v } }
      ∧ (s.uart.Ok → s.memRead 0x080B000C#32 .word = (if s.uart.rxFifo = [] then 0x90#32 else 0xD0#32, s))
      ∧ (∀ (k : Nat) (sz : Size), k < 4 → s.memWrite (0x080B000C#32 + BitVec.ofNat 32 k) sz v = s)
      ∧ ∀ (a : Word) (k : Nat) (sz : Size), a ∈ [0x080B0004#32, 0x080B0014#32, 0x080B0018#32, 0x080B001C#32] → k < 4 →
        s.memRead (a + BitVec.ofNat 32 k) sz = (0#32, s) ∧ s.memWrite (a + BitVec.ofNat 32 k) sz v = s

/-- R480 (D36, D46) with R481 (D35: layouts and rounding), for every geometry and format: a framebuffer that fits is converted pixel by pixel, each
component as `component` computes it in integers; one that does not is counted. -/
def Obligations.RenderConvertsEveryPixel : Prop :=
  ∀ (s : State) (w h : Nat) (f : Config.VduFormat), s.vdu.pixels.wf →
    let off := s.vdu.fbAddr.toNat % 2 ^ 24
    let t := s.renderWith w h f
    match Config.regionOf (segmentOf s.vdu.fbAddr) with
    | none => t = { s with vdu := { s.vdu with segmentErrors := s.vdu.segmentErrors + 1 } }
    | some .mmio => t = { s with vdu := { s.vdu with boundsErrors := s.vdu.boundsErrors + 1 } }
    | some (.backing b) =>
      if b.size < off + w * h * sourceBytes f then t = { s with vdu := { s.vdu with boundsErrors := s.vdu.boundsErrors + 1 } }
      else
        (∀ i k, i < w * h → k < 4 → (t.vdu.pixels.read (4 * i + k)).toNat
          = component f (fun j => (s.mem.read (b.base + off + i * sourceBytes f + j)).toNat) k)
        ∧ (∀ a, 4 * (w * h) ≤ a → t.vdu.pixels.read a = s.vdu.pixels.read a)
        ∧ t.vdu.status = s.vdu.status ||| 1#16 ∧ t.intc.status.getLsbD 4 = true ∧ t.mem = s.mem

/-! ## Decoding and the step (spec/30_encoding.md) -/

/-- R116, R310, R298: which slots are invalid, by the tables of function codes and sub-opcodes (D3, D4, D5) and of the 16-bit set (D7); executing one
performs raise E(32) (D18, D19). -/
def Obligations.InvalidIsExactlyTheReserved : Prop :=
  (∀ (slot : Word) (pc1 t : Bool), slot.extractLsb' 30 2 ≠ 3#2 → ((∃ e, decodeSlot slot pc1 t = .error e) ↔ reserved32 slot))
    ∧ (∀ (slot : Word) (pc1 t : Bool), slot.extractLsb' 30 2 = 3#2 →
      ((∃ e, decodeSlot slot pc1 t = .error e) ↔ reservedHalf (selectHalf slot pc1 t)))
    ∧ ∀ (s : State) (slot : Word) (e : DecodeError), decodeSlot slot (s.pc.getLsbD 1) s.flags.t = .error e →
      State.execSlot slot s = .next (s.enter 32#6)

/-- R102 (D1), R117 (D45): bits 26 and 25 of a 32-bit slot are decoded by the B-form alone. -/
def Obligations.BitsTwentySixTwentyFiveIgnored : Prop :=
  ∀ (slot : Word) (k : BitVec 2), opField slot ≠ 4#5 → isCompact slot = false → decode32 (slot ^^^ (k.setWidth 32 <<< 25)) = decode32 slot

/-- R111, R112 (D6): which half of a compact slot executes, and how pc advances. -/
def Obligations.CompactSlotSelectsOneHalf : Prop :=
  ∀ (s : State) (slot : Word), slot.toNat / 2 ^ 27 ∈ [0x18, 0x19, 0x1A, 0x1B, 0x1C, 0x1D, 0x1E, 0x1F] →
    let h0 : Half := BitVec.ofNat 16 (slot.toNat % 2 ^ 16)
    let h1 : Half := BitVec.ofNat 16 (slot.toNat / 2 ^ 16)
    let pc1 := s.pc.getLsbD 1
    (slot.getLsbD 15 = false → decodeSlot slot pc1 s.flags.t = decodeHalf .single (if pc1 then h1 else h0) ∧ next16 .single s.pc = s.pc + 2#32)
    ∧ (slot.getLsbD 15 = true → decodeSlot slot pc1 s.flags.t = decodeHalf .parallel (if s.flags.t then h0 else h1)
        ∧ (next16 .parallel s.pc).toNat = (s.pc.toNat / 4 * 4 + 4) % 2 ^ 32)

/-- A few words written out from the spec's encodings decode to their instructions (R124 and the examples of the rules). -/
def Obligations.SpecWordsDecode : Prop :=
  Decodes 0x00000000#32 .nop ∧ Decodes 0x096C0042#32 (.ldi 22#5 0x21#16) ∧ Decodes 0x00F29819#32 (.cmpCc .al 5#5 6#5)
  ∧ Decodes 0x20001010#32 (.bCc .eq 8#22) ∧ Decodes 0x30000084#32 .rte
  ∧ decodeSlot 0xE0012120#32 false false = .ok (.add16 .single 1#5 2#5)
  ∧ decodeSlot 0xD1AAD055#32 false true = .ok (.ldiu16 .parallel 0#5 0x55#8)
  ∧ decodeSlot 0xD1AAD055#32 false false = .ok (.ldiu16 .parallel 1#5 0xAA#8)

/-- Decoding undoes encoding: every operand of every well-formed instruction survives, and that of a half of formats 4 to 7 in the upper position of
its slot too (R100 to R115, R310, R113). -/
def Obligations.DecodeUndoesEncode : Prop :=
  ∀ i : Instr, i.wellFormed = true →
    decodeSlot (encode i) false true = .ok i ∧ (fitsHigh i = true → decodeSlot (encodeHigh i) true false = .ok i)

/-- R120, R123 (D40), R505, R513 (D38): a step of a paused engine, or of a running one inside a frame, runs the instruction the slot at pc decodes to,
counts it, and charges the slice (and the frame). A reserved slot is an entry with cause 32 that is counted alike (R298, D18, D19). A halted CPU's
step changes nothing of the CPU and is charged (R37, D39; log entry 8). The other units are a breakpoint hit (R515), the start and the end of a frame
(R505; D36, D46), and nothing in the modes STOPPED, LOADING and ERROR (R501). That a step of the machine is one such unit is the model's choice: log
entry 1. -/
def Obligations.StepRunsTheDecodedInstruction : Prop :=
  ∀ s : State,
    let counted (t : State) : State := { t with cycles := t.cycles + 4, instret := t.instret + 1 }
    let charged (c : Int) (t : State) : State := ({ t with cyclesRemaining := some (c - 4) } : State).chargeSlice
    let inFrame (c : Int) : Prop := s.mode = .running ∧ s.cyclesRemaining = some c ∧ 0 < c
    (∀ i : Instr, s.halted = false → decodeSlot s.fetch.1 (s.pc.getLsbD 1) s.flags.t = .ok i → i.wellFormed = true →
      (s.mode = .paused → step s = andThen (exec i s.fetch.2) fun t => .next (counted t).chargeSlice)
      ∧ ∀ c, inFrame c → s.pc ∉ s.breakpoints → step s = andThen (exec i s.fetch.2) fun t => .next (charged c (counted t)))
    ∧ (∀ e : DecodeError, s.halted = false → decodeSlot s.fetch.1 (s.pc.getLsbD 1) s.flags.t = .error e →
      (s.mode = .paused → step s = .next (counted (s.fetch.2.enter 32#6)).chargeSlice)
      ∧ ∀ c, inFrame c → s.pc ∉ s.breakpoints → step s = .next (charged c (counted (s.fetch.2.enter 32#6))))
    ∧ (s.halted = true →
      (s.mode = .paused → step s = .next s.chargeSlice) ∧ ∀ c, inFrame c → s.pc ∉ s.breakpoints → step s = .next (charged c s))
    ∧ (∀ c, inFrame c → s.pc ∈ s.breakpoints → step s = .next { s with mode := .paused, cyclesRemaining := none })
    ∧ (s.mode = .running → s.cyclesRemaining = none →
      step s = .next { s with vdu := { s.vdu with status := s.vdu.status &&& 0xFFFE#16 }, cyclesRemaining := some 564480 })
    ∧ (∀ c, s.mode = .running → s.cyclesRemaining = some c → c ≤ 0 →
      let u := ({ s with frameCounter := s.frameCounter + 1, cyclesRemaining := none } : State).trigger 4#5
      step s = .next (if u.vdu.ctrl.getLsbD 0 then u.render else u))
    ∧ (s.mode = .stopped ∨ s.mode = .loading ∨ s.mode = .error → step s = .next s)

/-! ## The whole machine (spec/62_engine.md, spec/70_reset_and_hazards.md) -/

/-- R62, R121, R520 (D40): no step faults or is refused. -/
def Obligations.EveryStepCompletes : Prop := ∀ s : State, ∃ t, step s = .next t

/-- R41 to R43, R46, R540, R541, R542: the values reset leaves. The zeros are D23's, the entry pc D44's, `halted` D39's, the VDU's base D37's, the slice and
the frame counter D38's, the kept flash D49's. Which machine `State.reset` is, is log entry 11; that no breakpoint is set and no frame is open in it is
the model's choice, log entry 5. Construction differs in the mode alone, and `reset()` keeps flash and the breakpoint set. -/
def Obligations.ResetValues : Prop :=
  let s := State.reset
  (∀ i : Reg, s.x i = 0#32 ∧ s.cr i = 0#32 ∧ s.sr i = 0#32) ∧ s.pc = 0x9E000000#32
  ∧ s.flags = { n := false, z := false, c := false, v := false, t := false } ∧ s.cel = 0#32 ∧ s.ceh = 0#32
  ∧ s.cycles = 0 ∧ s.instret = 0 ∧ s.halted = false ∧ (∀ a, s.mem.read a = 0#8) ∧ s.unmappedCount = 0
  ∧ s.intc = { mask := 0#32, prio := 0#32, status := 0#32 }
  ∧ (∀ k : ChannelId, s.timers.get k
      = { count := 0#32, ctrl := 0#32, cmp := 0#32, compareHit := false, overflow := false, cyclesUntilTick := 0 })
  ∧ s.uart = { ctrl := 0#32, status := 0x90#32, baud := 0#32, rxFifo := [], rxReg := 0#8, txLog := [] }
  ∧ s.vdu.ctrl = 0#16 ∧ s.vdu.status = 0#16 ∧ s.vdu.fbAddrHigh = 0xA000#16 ∧ s.vdu.fbAddrLow = 0x0000#16 ∧ s.vdu.fbAddr = 0xA0000000#32
  ∧ s.vdu.boundsErrors = 0 ∧ s.vdu.segmentErrors = 0 ∧ s.vdu.formatErrors = 0 ∧ (∀ a, s.vdu.pixels.read a = 0#8)
  ∧ s.mode = .paused ∧ s.frameCounter = 0 ∧ s.sliceRemaining = 10000 ∧ s.cyclesRemaining = none ∧ s.breakpoints = []
  ∧ State.construction = { s with mode := .stopped }
  ∧ ∀ u : State,
    let t := u.engineReset
    t = { s with mem := t.mem, breakpoints := u.breakpoints } ∧ (∀ a, inFlash a → t.mem.read a = u.mem.read a)
    ∧ ∀ a, ¬ inFlash a → t.mem.read a = 0#8

/-- The invariant of Safety.lean holds at reset. It rests on which machine `State.reset` is (log entry 11: the zeros are D23's) and on log entry 5. -/
def Obligations.InvariantHoldsAtReset : Prop := State.reset.Inv

/-- Every step keeps the invariant of Safety.lean: storage in canonical form and inside the address map, the pixel array, UART and VDU status, the
counters, and vblank clear inside a frame (R39, R46, R459, R473, R475, R482, R505, R506, R562). Its clauses rest on D33 (UART STATUS), D36 (vblank), D38
(slice and frame budgets), and on the model's own choice of canonical sparse lists for storage and pixels (log entries 6 and 7). -/
def Obligations.InvariantKeptByEveryStep : Prop := ∀ s t : State, s.Inv → step s = .next t → t.Inv

/-- R505, R507, R508 (D38, D46): a frame in which no breakpoint is hit is 141,120 CPU steps, then the frame is counted and line 4 is pending; and inside
a frame no host operation takes place (log entry 3). The breakpoints are consulted after the start of the frame and after each iteration but the
last. -/
def Obligations.FrameIsExactlyItsSteps : Prop :=
  (∀ s : State, s.mode = .running → s.cyclesRemaining = none → s.halted = false →
    (∀ k, 1 ≤ k → k ≤ 141120 → (advanced^[k] s).pc ∉ s.breakpoints) →
    ∃ t, s.frame = .next t ∧ t.instret = s.instret + 141120 ∧ t.cycles = s.cycles + 564480 ∧ t.frameCounter = s.frameCounter + 1
      ∧ t.mode = .running ∧ t.cyclesRemaining = none ∧ t.intc.status.getLsbD 4 = true ∧ t.breakpoints = s.breakpoints)
  ∧ ∀ (op : HostOp) (s : State), s.cyclesRemaining ≠ none → hostOp op s = .refused .insideFrame

/-- R506 (D38): 2,500 charges of a full slice amount to one tick of 10,000 cycles, and fewer to none. -/
def Obligations.SliceTicksOnceIn2500 : Prop :=
  ∀ s : State, s.sliceRemaining = 10000 →
    (∀ k : Nat, k < 2500 → State.chargeSlice^[k] s = { s with sliceRemaining := 10000 - 4 * k })
    ∧ State.chargeSlice^[2500] s = s.tick 10000

/-- R511, R512: start and pause. -/
def Obligations.StartAndPauseMoveOnlyTheirMode : Prop :=
  ∀ s : State,
    (s.mode = .paused → s.start = { s with mode := .running }) ∧ (s.mode ≠ .paused → s.start = s)
    ∧ (s.mode = .running → s.pause = { s with mode := .paused }) ∧ (s.mode ≠ .running → s.pause = s)

/-- R510, R545, R546 (D41: no word swap; D49: bytes beyond the image and everything else are kept), R69 (D28: bytes beyond 8 MiB are dropped): a loaded image stands in flash from offset 0 and the rest of flash and every other byte is kept; the magic chooses the
entry; nothing else changes. -/
def Obligations.LoadRomPlacesTheImage : Prop :=
  ∀ (s : State) (bytes : List Byte), s.mem.wf →
    let t := s.loadRom bytes
    (∀ k, k < bytes.length → k < 0x800000 → t.mem.read (0x9E000000 + k) = bytes.getD k 0#8)
    ∧ (∀ a, (a < 0x9E000000 ∨ 0x9E000000 + min bytes.length 0x800000 ≤ a) → t.mem.read a = s.mem.read a)
    ∧ t.pc = (if [0x4E, 0x4F, 0x50, 0x51].map (fun k => t.mem.read (0x9E000000 + k)) = [0x61#8, 0x4D#8, 0x38#8, 0x32#8]
        then 0x9E000100#32 else 0x9E000000#32)
    ∧ t = { s with mem := t.mem, pc := t.pc, mode := .paused }

/-! ## The 16-bit register instructions (spec/45_compact16.md) -/

/-- R311 to R314, R320 to R322, R324 to R327, R339, R340, R342 to R344, R346, R353 (D7, D9): none writes a flag. -/
def Obligations.CompactRegisterResults : Prop :=
  ∀ (s : State) (m : SlotMode) (rd ra : Reg) (imm5 : BitVec 5) (imm8 : BitVec 8),
    let a := s.x ra
    let d := s.x rd
    let one : Word := BitVec.ofNat 32 (2 ^ imm5.toNat)
    let k : Int := 2 ^ (imm5.toNat % 16)
    let gives (i : Instr) (r : Word) := YieldsReg i s rd r s.flags (next16 m s.pc)
    YieldsFlags (.nop16 m) s s.flags (next16 m s.pc) ∧ gives (.mlfh16 m rd ra) a ∧ gives (.mhfl16 m rd ra) a ∧ gives (.mv16 m rd ra) a
    ∧ gives (.add16 m rd ra) (BitVec.ofNat 32 (d.toNat + a.toNat)) ∧ gives (.sub16 m rd ra) (BitVec.ofInt 32 (d.toNat - a.toNat))
    ∧ gives (.neg16 m rd ra) (BitVec.ofInt 32 (-(a.toNat : Int))) ∧ gives (.and16 m rd ra) (d &&& a) ∧ gives (.or16 m rd ra) (d ||| a)
    ∧ gives (.not16 m rd ra) (a ^^^ 0xFFFFFFFF#32) ∧ gives (.xor16 m rd ra) (d ^^^ a)
    ∧ gives (.ldiu16 m rd imm8) (BitVec.ofNat 32 imm8.toNat)
    ∧ gives (.addei16 m rd imm5) (BitVec.ofInt 32 (d.toNat + (if 16 ≤ imm5.toNat then -k else k)))
    ∧ gives (.slli16 m rd imm5) (BitVec.ofNat 32 (d.toNat * 2 ^ imm5.toNat))
    ∧ gives (.srli16 m rd imm5) (BitVec.ofNat 32 (d.toNat / 2 ^ imm5.toNat))
    ∧ gives (.bitclr16 m rd imm5) (d &&& ~~~one) ∧ gives (.bitset16 m rd imm5) (d ||| one) ∧ gives (.bittgl16 m rd imm5) (d ^^^ one)

end Statements
end

