-- ==== Sys2Proof/Laws/Encoding.lean ====
section
/-!
SUPPORT. Reading a field out of an encoding: a field placed at a position is read back whole or in part, and reads 0 elsewhere. With these and
`extractLsb'_or`, `simp` computes any field of any form of spec/30_encoding.md.
-/

set_option linter.unusedSimpArgs false

namespace Sys2Proof

/-- A field read where it was placed. -/
theorem field_place_same {n w : Nat} (v : BitVec n) (k : Nat) (h : k + n ≤ w) : (place w v k).extractLsb' k n = v := by
  apply BitVec.eq_of_getLsbD_eq
  intro i hi
  have h1 : k + i < w := by omega
  simp [place, hi, h1]

/-- Part of a field: `len` bits from bit `j` of the field. -/
theorem field_place_part {n w : Nat} (v : BitVec n) (k j len : Nat) (h : k + j + len ≤ w) :
    (place w v k).extractLsb' (k + j) len = v.extractLsb' j len := by
  apply BitVec.eq_of_getLsbD_eq
  intro i hi
  have h1 : k + j + i < w := by omega
  have h3 : k + j + i - k = j + i := by omega
  have h4 : ¬ k + j + i < k := by omega
  simp [place, hi, h1, h3, h4]

/-- Below a field there is 0. -/
theorem field_place_low {n w : Nat} (v : BitVec n) (k lo len : Nat) (h : lo + len ≤ k) : (place w v k).extractLsb' lo len = 0#len := by
  apply BitVec.eq_of_getLsbD_eq
  intro i hi
  have h1 : lo + i < k := by omega
  simp [place, h1]

/-- Above a field there is 0. -/
theorem field_place_high {n w : Nat} (v : BitVec n) (k lo len : Nat) (h : k + n ≤ lo) : (place w v k).extractLsb' lo len = 0#len := by
  apply BitVec.eq_of_getLsbD_eq
  intro i hi
  have h1 : n ≤ lo + i - k := by omega
  simp only [place, BitVec.getLsbD_extractLsb', BitVec.getLsbD_shiftLeft, BitVec.getLsbD_setWidth, BitVec.getLsbD_of_ge v _ h1, Bool.and_false,
    BitVec.getLsbD_zero]

/-- One bit of a field. -/
theorem bit_place {n w : Nat} (v : BitVec n) (k i : Nat) :
    (place w v k).getLsbD i = (decide (i < w) && (!decide (i < k) && (decide (i - k < w) && v.getLsbD (i - k)))) := by
  simp [place, Bool.and_assoc]

theorem Cond.ofBits_bits (c : Cond) : Cond.ofBits c.bits = c := by cases c <;> rfl

theorem Cond.bits_ofBits (b : BitVec 4) : (Cond.ofBits b).bits = b := by revert b; decide

theorem lowReg_reg4 (r : Reg) (h : r.isLow = true) : lowReg (reg4 r) = r := by revert r; decide

theorem highReg_reg4 (r : Reg) (h : r.isHigh = true) : highReg (reg4 r) = r := by revert r; decide

/-! ## The selecting fields of each form -/

theorem spForm_field_0 (f : BitVec 6) (d a b : Reg) (cu : Bool) :
    (spForm f d a b cu).extractLsb' 0 7 = place 7 f 1 ||| place 7 (BitVec.ofBool cu) 0 := by
  apply BitVec.eq_of_getLsbD_eq
  intro i hi
  interval_cases i <;> simp [spForm, place]

theorem spForm_field_1 (f : BitVec 6) (d a b : Reg) (cu : Bool) : (spForm f d a b cu).extractLsb' 1 6 = f := by
  simp [spForm, BitVec.extractLsb'_or, field_place_same, field_place_low, field_place_high]

theorem spForm_field_27 (f : BitVec 6) (d a b : Reg) (cu : Bool) : (spForm f d a b cu).extractLsb' 27 5 = 0#5 := by
  simp [spForm, BitVec.extractLsb'_or, field_place_same, field_place_low, field_place_high]

theorem immForm_field_17 (op : BitVec 5) (f : BitVec 3) (d : Reg) (imm : BitVec 16) : (immForm op f d imm).extractLsb' 17 3 = f := by
  simp [immForm, BitVec.extractLsb'_or, field_place_same, field_place_low, field_place_high]

theorem immForm_field_27 (op : BitVec 5) (f : BitVec 3) (d : Reg) (imm : BitVec 16) : (immForm op f d imm).extractLsb' 27 5 = op := by
  simp [immForm, BitVec.extractLsb'_or, field_place_same, field_place_low, field_place_high]

theorem jForm_field_0 (disp : BitVec 24) (lk : Bool) : (jForm disp lk).extractLsb' 0 1 = BitVec.ofBool lk := by
  simp [jForm, BitVec.extractLsb'_or, field_place_same, field_place_low, field_place_high]

theorem jForm_field_27 (disp : BitVec 24) (lk : Bool) : (jForm disp lk).extractLsb' 27 5 = 2#5 := by
  simp [jForm, BitVec.extractLsb'_or, field_place_same, field_place_low, field_place_high]

theorem bForm_field_0 (c : Cond) (disp : BitVec 22) (lk : Bool) : (bForm c disp lk).extractLsb' 0 1 = BitVec.ofBool lk := by
  simp [bForm, BitVec.extractLsb'_or, field_place_same, field_place_low, field_place_high]

theorem bForm_field_27 (c : Cond) (disp : BitVec 22) (lk : Bool) : (bForm c disp lk).extractLsb' 27 5 = 4#5 := by
  simp [bForm, BitVec.extractLsb'_or, field_place_same, field_place_low, field_place_high]

theorem rixForm_field_0 (op : BitVec 5) (f : BitVec 3) (d a : Reg) (imm : BitVec 12) : (rixForm op f d a imm).extractLsb' 0 3 = f := by
  simp [rixForm, BitVec.extractLsb'_or, field_place_same, field_place_low, field_place_high]

theorem rixForm_field_27 (op : BitVec 5) (f : BitVec 3) (d a : Reg) (imm : BitVec 12) : (rixForm op f d a imm).extractLsb' 27 5 = op := by
  simp [rixForm, BitVec.extractLsb'_or, field_place_same, field_place_low, field_place_high]

theorem crForm_field_0 (sub : BitVec 8) (d a : Reg) : (crForm sub d a).extractLsb' 0 8 = sub := by
  simp [crForm, BitVec.extractLsb'_or, field_place_same, field_place_low, field_place_high]

theorem crForm_field_27 (sub : BitVec 8) (d a : Reg) : (crForm sub d a).extractLsb' 27 5 = 6#5 := by
  simp [crForm, BitVec.extractLsb'_or, field_place_same, field_place_low, field_place_high]

theorem riForm_field_27 (op : BitVec 5) (d a : Reg) (imm : BitVec 14) : (riForm op d a imm).extractLsb' 27 5 = op := by
  simp [riForm, BitVec.extractLsb'_or, field_place_same, field_place_low, field_place_high]

theorem memForm_field_27 (op : BitVec 5) (d a : Reg) (imm : BitVec 15) : (memForm op d a imm).extractLsb' 27 5 = op := by
  simp [memForm, BitVec.extractLsb'_or, field_place_same, field_place_low, field_place_high]

theorem nibbleForm_field_0 (f : BitVec 3) (hi mid lo : BitVec 4) : (nibbleForm f hi mid lo).extractLsb' 0 4 = lo := by
  simp [nibbleForm, BitVec.extractLsb'_or, field_place_same, field_place_low, field_place_high]

theorem nibbleForm_field_4 (f : BitVec 3) (hi mid lo : BitVec 4) : (nibbleForm f hi mid lo).extractLsb' 4 4 = mid := by
  simp [nibbleForm, BitVec.extractLsb'_or, field_place_same, field_place_low, field_place_high]

theorem nibbleForm_field_5 (f : BitVec 3) (hi mid lo : BitVec 4) :
    (nibbleForm f hi mid lo).extractLsb' 5 3 = mid.extractLsb' 1 3 := by
  have h : (place 16 mid 4).extractLsb' 5 3 = mid.extractLsb' 1 3 := field_place_part mid 4 1 3 (by decide)
  simp [nibbleForm, BitVec.extractLsb'_or, h, field_place_low, field_place_high]

theorem nibbleForm_field_12 (f : BitVec 3) (hi mid lo : BitVec 4) : (nibbleForm f hi mid lo).extractLsb' 12 3 = f := by
  simp [nibbleForm, BitVec.extractLsb'_or, field_place_same, field_place_low, field_place_high]

theorem jumpForm_field_0 (disp : BitVec 11) (lk : Bool) : (jumpForm disp lk).extractLsb' 0 1 = BitVec.ofBool lk := by
  simp [jumpForm, BitVec.extractLsb'_or, field_place_same, field_place_low, field_place_high]

theorem jumpForm_field_12 (disp : BitVec 11) (lk : Bool) : (jumpForm disp lk).extractLsb' 12 3 = 3#3 := by
  simp [jumpForm, BitVec.extractLsb'_or, field_place_same, field_place_low, field_place_high]

theorem byteForm_field_12 (f : BitVec 3) (hi : BitVec 4) (lo : BitVec 8) : (byteForm f hi lo).extractLsb' 12 3 = f := by
  simp [byteForm, BitVec.extractLsb'_or, field_place_same, field_place_low, field_place_high]

theorem fiveForm_field_0 (f : BitVec 3) (d : BitVec 4) (imm : BitVec 5) (f3 : BitVec 3) : (fiveForm f d imm f3).extractLsb' 0 3 = f3 := by
  simp [fiveForm, BitVec.extractLsb'_or, field_place_same, field_place_low, field_place_high]

theorem fiveForm_field_12 (f : BitVec 3) (d : BitVec 4) (imm : BitVec 5) (f3 : BitVec 3) : (fiveForm f d imm f3).extractLsb' 12 3 = f := by
  simp [fiveForm, BitVec.extractLsb'_or, field_place_same, field_place_low, field_place_high]

theorem stackForm_field_0 (f4 : BitVec 4) (d a : Reg) : (stackForm f4 d a).extractLsb' 0 4 = f4 := by
  simp [stackForm, BitVec.extractLsb'_or, field_place_same, field_place_low, field_place_high]

theorem stackForm_field_12 (f4 : BitVec 4) (d a : Reg) : (stackForm f4 d a).extractLsb' 12 3 = 2#3 := by
  simp [stackForm, BitVec.extractLsb'_or, field_place_same, field_place_low, field_place_high]

/-- A field of the body of a half is that field of the slot that holds it in H0. -/
theorem lowSlot_field (h : Half) (lo len : Nat) (hl : lo + len ≤ 15) (fl : Bool) :
    (lowSlot (h ||| place 16 (BitVec.ofBool fl) 15)).extractLsb' lo len = h.extractLsb' lo len := by
  apply BitVec.eq_of_getLsbD_eq
  intro i hi
  have h1 : lo + i < 15 := by omega
  have h2 : (0xE0010000#32).getLsbD (lo + i) = false := by
    have : ∀ k : Fin 15, (0xE0010000#32).getLsbD k = false := by decide
    exact this ⟨lo + i, h1⟩
  have h3 : lo + i < 32 := by omega
  have h4 : lo + i < 16 := by omega
  have h5 : (0xE0010000#32)[lo + i] = false := by rw [← BitVec.getLsbD_eq_getElem h3]; exact h2
  simp [lowSlot, place, hi, h1, h3, h4, h5]

end Sys2Proof
end

