-- ==== Sys2Proof/Laws/Memory.lean ====
section
/-!
SUPPORT. The laws of a memory in canonical form: every operation keeps the form, a write is read back, and leaves every other byte.
-/

namespace Sys2Proof.Machine

/-! ## The canonical form is kept -/

theorem Memory.wf_cons (k : Nat) (b : Byte) (m : Memory) :
    Memory.wf ((k, b) :: m) ↔ (∀ c ∈ m, k < c.1) ∧ b ≠ Memory.fill ∧ Memory.wf m := by
  simp only [Memory.wf, List.pairwise_cons, List.mem_cons, forall_eq_or_imp]
  tauto

theorem Memory.entry_mem (a : Nat) (v : Byte) (m : Memory) (c : Host.Cell) (h : c ∈ Memory.entry a v m) :
    c = (a, v) ∨ c ∈ m := by
  unfold Memory.entry at h
  split at h
  · exact .inr h
  · simpa using h

/-- A write lists no address but the one written and those listed before. -/
theorem Memory.write_mem (m : Memory) (a : Nat) (v : Byte) (c : Host.Cell) (h : c ∈ m.write a v) :
    c = (a, v) ∨ c ∈ m := by
  induction m with
  | nil => simpa using Memory.entry_mem a v [] c h
  | cons d m ih =>
    obtain ⟨k, b⟩ := d
    unfold Memory.write at h
    split at h
    · exact Memory.entry_mem _ _ _ _ h
    · split at h
      · rcases Memory.entry_mem _ _ _ _ h with h | h
        · exact .inl h
        · exact .inr (List.mem_cons_of_mem _ h)
      · rcases List.mem_cons.1 h with h | h
        · exact .inr (h ▸ List.mem_cons_self)
        · exact (ih h).imp_right (List.mem_cons_of_mem _)

theorem Memory.wf_entry (a : Nat) (v : Byte) (m : Memory) (hm : m.wf) (h : ∀ c ∈ m, a < c.1) :
    Memory.wf (Memory.entry a v m) := by
  unfold Memory.entry
  split
  · exact hm
  · next hv => exact (Memory.wf_cons a v m).2 ⟨h, hv, hm⟩

/-- A write keeps the canonical form. -/
theorem Memory.wf_write (m : Memory) (a : Nat) (v : Byte) (hm : m.wf) : (m.write a v).wf := by
  induction m with
  | nil => exact Memory.wf_entry a v [] hm (by simp)
  | cons d m ih =>
    obtain ⟨k, b⟩ := d
    obtain ⟨hk, hb, hm'⟩ := (Memory.wf_cons k b m).1 hm
    unfold Memory.write
    split
    · next hlt =>
      refine Memory.wf_entry _ _ _ hm fun c hc => ?_
      rcases List.mem_cons.1 hc with rfl | hc
      · exact hlt
      · exact lt_trans hlt (hk c hc)
    · split
      · next he => exact Memory.wf_entry _ _ _ hm' fun c hc => he ▸ hk c hc
      · next h1 h2 =>
        refine (Memory.wf_cons _ _ _).2 ⟨fun c hc => ?_, hb, ih hm'⟩
        rcases Memory.write_mem m a v c hc with rfl | hc
        · show k < a
          omega
        · exact hk c hc

/-! ## Reading -/

theorem Memory.read_eq_fill_of_lt (m : Memory) (a : Nat) (h : ∀ c ∈ m, a < c.1) : m.read a = Memory.fill := by
  induction m with
  | nil => rfl
  | cons d m ih =>
    obtain ⟨k, b⟩ := d
    have hk : k ≠ a := by have := h (k, b) List.mem_cons_self; simp at this; omega
    simp only [Memory.read, hk, if_false]
    exact ih fun c hc => h c (List.mem_cons_of_mem _ hc)

theorem Memory.read_entry_same (a : Nat) (v : Byte) (m : Memory) (h : ∀ c ∈ m, a < c.1) :
    (Memory.entry a v m).read a = v := by
  unfold Memory.entry
  split
  · next hv => rw [Memory.read_eq_fill_of_lt m a h, hv]
  · simp [Memory.read]

theorem Memory.read_entry_ne (a b : Nat) (v : Byte) (m : Memory) (h : b ≠ a) :
    (Memory.entry a v m).read b = m.read b := by
  unfold Memory.entry
  split
  · rfl
  · simp [Memory.read, Ne.symm h]

/-- A byte just written reads back (in a memory of canonical form). -/
theorem Memory.read_write_same (m : Memory) (a : Nat) (v : Byte) (hm : m.wf) : (m.write a v).read a = v := by
  induction m with
  | nil => exact Memory.read_entry_same a v [] (by simp)
  | cons d m ih =>
    obtain ⟨k, b⟩ := d
    obtain ⟨hk, -, hm'⟩ := (Memory.wf_cons k b m).1 hm
    unfold Memory.write
    split
    · next hlt =>
      refine Memory.read_entry_same a v _ fun c hc => ?_
      rcases List.mem_cons.1 hc with rfl | hc
      · exact hlt
      · exact lt_trans hlt (hk c hc)
    · split
      · next he => exact Memory.read_entry_same a v m fun c hc => he ▸ hk c hc
      · next h1 h2 => simpa [Memory.read, h2] using ih hm'

/-- A write leaves every other byte. -/
theorem Memory.read_write_ne (m : Memory) (a b : Nat) (v : Byte) (h : b ≠ a) : (m.write a v).read b = m.read b := by
  induction m with
  | nil => exact Memory.read_entry_ne a b v [] h
  | cons d m ih =>
    obtain ⟨k, w⟩ := d
    unfold Memory.write
    split
    · exact Memory.read_entry_ne a b v _ h
    · split
      · next he =>
        subst he
        rw [Memory.read_entry_ne _ _ _ _ h]
        simp [Memory.read, Ne.symm h]
      · simp only [Memory.read]
        rw [ih]

/-! ## Several bytes -/

theorem Memory.wf_writeLE (m : Memory) (a : Nat) (v : Word) (n : Nat) (hm : m.wf) : (m.writeLE a v n).wf := by
  induction n with
  | zero => exact hm
  | succ n ih => exact Memory.wf_write _ _ _ ih

theorem Memory.writeLE_mem (m : Memory) (a : Nat) (v : Word) (n : Nat) (c : Host.Cell) (h : c ∈ m.writeLE a v n) :
    (a ≤ c.1 ∧ c.1 < a + n) ∨ c ∈ m := by
  induction n with
  | zero => exact .inr h
  | succ n ih =>
    rcases Memory.write_mem _ _ _ _ h with rfl | h
    · exact .inl ⟨by simp, by simp⟩
    · exact (ih h).imp_left fun h => ⟨h.1, by omega⟩

/-- Every byte outside the n bytes written is as before. -/
theorem Memory.read_writeLE_outside (m : Memory) (a b : Nat) (v : Word) (n : Nat) (h : b < a ∨ a + n ≤ b) :
    (m.writeLE a v n).read b = m.read b := by
  induction n with
  | zero => rfl
  | succ n ih =>
    simp only [Memory.writeLE]
    rw [Memory.read_write_ne _ _ _ _ (by omega), ih (by omega)]

/-- Byte i of the n bytes written is bits 8i+7..8i of the value (R65). -/
theorem Memory.read_writeLE_inside (m : Memory) (a : Nat) (v : Word) (n i : Nat) (hm : m.wf) (h : i < n) :
    (m.writeLE a v n).read (a + i) = v.extractLsb' (8 * i) 8 := by
  induction n with
  | zero => omega
  | succ n ih =>
    simp only [Memory.writeLE]
    by_cases hi : i = n
    · subst hi; exact Memory.read_write_same _ _ _ (Memory.wf_writeLE _ _ _ _ hm)
    · rw [Memory.read_write_ne _ _ _ _ (by omega), ih (by omega)]

/-- Four little-endian bytes as one word. -/
theorem Memory.readLE_four (m : Memory) (a : Nat) :
    m.readLE a 4 = m.read (a + 3) ++ m.read (a + 2) ++ m.read (a + 1) ++ m.read a := by
  apply BitVec.eq_of_getLsbD_eq
  intro i hi
  simp only [Memory.readLE, place, Nat.add_zero, Nat.mul_zero]
  simp only [BitVec.getLsbD_or, BitVec.getLsbD_shiftLeft, BitVec.getLsbD_setWidth, BitVec.getLsbD_append, BitVec.getLsbD_zero]
  interval_cases i <;> simp

/-! ## Bulk load -/

theorem wf_bulkLoad (m : Memory) (a room : Nat) (l : List Byte) (hm : m.wf) : (bulkLoad m a room l).wf := by
  induction room generalizing m a l with
  | zero => simpa [bulkLoad] using hm
  | succ n ih =>
    cases l with
    | nil => simpa [bulkLoad] using hm
    | cons b l => exact ih _ _ _ (Memory.wf_write _ _ _ hm)

theorem wf_flashBytes (m : Memory) (hm : m.wf) : (flashBytes m).wf :=
  ⟨hm.1.filter _, fun c hc => hm.2 c (List.mem_of_mem_filter hc)⟩

theorem wf_swapGroups (m : Memory) (a n : Nat) (hm : m.wf) : (swapGroups m a n).wf := by
  induction n with
  | zero => exact hm
  | succ n ih => exact Memory.wf_write _ _ _ (Memory.wf_write _ _ _ (Memory.wf_write _ _ _ (Memory.wf_write _ _ _ ih)))

/-- The reset memory has the canonical form. -/
theorem wf_reset : State.reset.mem.wf := by simp [State.reset, Memory.wf]

end Sys2Proof.Machine
end

