-- ==== Sys2Proof/Laws/State.lean ====
section
/-!
SUPPORT. One lemma per field per update of State, so that no proof unfolds a record update; and the register accessors read back what was
written.
-/

namespace Sys2Proof.Machine

variable (s : State)

/-! ## setX -/

@[simp] theorem State.setX_regs (i : Reg) (v : Word) : (s.setX i v).regs = s.regs.set i.toNat v := rfl
@[simp] theorem State.setX_pc (i : Reg) (v : Word) : (s.setX i v).pc = s.pc := rfl
@[simp] theorem State.setX_flags (i : Reg) (v : Word) : (s.setX i v).flags = s.flags := rfl
@[simp] theorem State.setX_sysRegs (i : Reg) (v : Word) : (s.setX i v).sysRegs = s.sysRegs := rfl
@[simp] theorem State.setX_ctlRegs (i : Reg) (v : Word) : (s.setX i v).ctlRegs = s.ctlRegs := rfl
@[simp] theorem State.setX_cel (i : Reg) (v : Word) : (s.setX i v).cel = s.cel := rfl
@[simp] theorem State.setX_ceh (i : Reg) (v : Word) : (s.setX i v).ceh = s.ceh := rfl
@[simp] theorem State.setX_cycles (i : Reg) (v : Word) : (s.setX i v).cycles = s.cycles := rfl
@[simp] theorem State.setX_instret (i : Reg) (v : Word) : (s.setX i v).instret = s.instret := rfl
@[simp] theorem State.setX_halted (i : Reg) (v : Word) : (s.setX i v).halted = s.halted := rfl
@[simp] theorem State.setX_mem (i : Reg) (v : Word) : (s.setX i v).mem = s.mem := rfl
@[simp] theorem State.setX_unmappedCount (i : Reg) (v : Word) : (s.setX i v).unmappedCount = s.unmappedCount := rfl
@[simp] theorem State.setX_intc (i : Reg) (v : Word) : (s.setX i v).intc = s.intc := rfl
@[simp] theorem State.setX_timers (i : Reg) (v : Word) : (s.setX i v).timers = s.timers := rfl
@[simp] theorem State.setX_uart (i : Reg) (v : Word) : (s.setX i v).uart = s.uart := rfl
@[simp] theorem State.setX_vdu (i : Reg) (v : Word) : (s.setX i v).vdu = s.vdu := rfl
@[simp] theorem State.setX_mode (i : Reg) (v : Word) : (s.setX i v).mode = s.mode := rfl
@[simp] theorem State.setX_frameCounter (i : Reg) (v : Word) : (s.setX i v).frameCounter = s.frameCounter := rfl
@[simp] theorem State.setX_sliceRemaining (i : Reg) (v : Word) : (s.setX i v).sliceRemaining = s.sliceRemaining := rfl
@[simp] theorem State.setX_cyclesRemaining (i : Reg) (v : Word) : (s.setX i v).cyclesRemaining = s.cyclesRemaining := rfl
@[simp] theorem State.setX_breakpoints (i : Reg) (v : Word) : (s.setX i v).breakpoints = s.breakpoints := rfl

/-! ## setCr -/

@[simp] theorem State.setCr_regs (i : Reg) (v : Word) : (s.setCr i v).regs = s.regs := rfl
@[simp] theorem State.setCr_pc (i : Reg) (v : Word) : (s.setCr i v).pc = s.pc := rfl
@[simp] theorem State.setCr_flags (i : Reg) (v : Word) : (s.setCr i v).flags = s.flags := rfl
@[simp] theorem State.setCr_sysRegs (i : Reg) (v : Word) : (s.setCr i v).sysRegs = s.sysRegs := rfl
@[simp] theorem State.setCr_ctlRegs (i : Reg) (v : Word) : (s.setCr i v).ctlRegs = s.ctlRegs.set i.toNat v := rfl
@[simp] theorem State.setCr_cel (i : Reg) (v : Word) : (s.setCr i v).cel = s.cel := rfl
@[simp] theorem State.setCr_ceh (i : Reg) (v : Word) : (s.setCr i v).ceh = s.ceh := rfl
@[simp] theorem State.setCr_cycles (i : Reg) (v : Word) : (s.setCr i v).cycles = s.cycles := rfl
@[simp] theorem State.setCr_instret (i : Reg) (v : Word) : (s.setCr i v).instret = s.instret := rfl
@[simp] theorem State.setCr_halted (i : Reg) (v : Word) : (s.setCr i v).halted = s.halted := rfl
@[simp] theorem State.setCr_mem (i : Reg) (v : Word) : (s.setCr i v).mem = s.mem := rfl
@[simp] theorem State.setCr_unmappedCount (i : Reg) (v : Word) : (s.setCr i v).unmappedCount = s.unmappedCount := rfl
@[simp] theorem State.setCr_intc (i : Reg) (v : Word) : (s.setCr i v).intc = s.intc := rfl
@[simp] theorem State.setCr_timers (i : Reg) (v : Word) : (s.setCr i v).timers = s.timers := rfl
@[simp] theorem State.setCr_uart (i : Reg) (v : Word) : (s.setCr i v).uart = s.uart := rfl
@[simp] theorem State.setCr_vdu (i : Reg) (v : Word) : (s.setCr i v).vdu = s.vdu := rfl
@[simp] theorem State.setCr_mode (i : Reg) (v : Word) : (s.setCr i v).mode = s.mode := rfl
@[simp] theorem State.setCr_frameCounter (i : Reg) (v : Word) : (s.setCr i v).frameCounter = s.frameCounter := rfl
@[simp] theorem State.setCr_sliceRemaining (i : Reg) (v : Word) : (s.setCr i v).sliceRemaining = s.sliceRemaining := rfl
@[simp] theorem State.setCr_cyclesRemaining (i : Reg) (v : Word) : (s.setCr i v).cyclesRemaining = s.cyclesRemaining := rfl
@[simp] theorem State.setCr_breakpoints (i : Reg) (v : Word) : (s.setCr i v).breakpoints = s.breakpoints := rfl

/-! ## setFlags -/

@[simp] theorem State.setFlags_regs (f : Flags) : (s.setFlags f).regs = s.regs := rfl
@[simp] theorem State.setFlags_pc (f : Flags) : (s.setFlags f).pc = s.pc := rfl
@[simp] theorem State.setFlags_flags (f : Flags) : (s.setFlags f).flags = f := rfl
@[simp] theorem State.setFlags_sysRegs (f : Flags) : (s.setFlags f).sysRegs = s.sysRegs := rfl
@[simp] theorem State.setFlags_ctlRegs (f : Flags) : (s.setFlags f).ctlRegs = s.ctlRegs := rfl
@[simp] theorem State.setFlags_cel (f : Flags) : (s.setFlags f).cel = s.cel := rfl
@[simp] theorem State.setFlags_ceh (f : Flags) : (s.setFlags f).ceh = s.ceh := rfl
@[simp] theorem State.setFlags_cycles (f : Flags) : (s.setFlags f).cycles = s.cycles := rfl
@[simp] theorem State.setFlags_instret (f : Flags) : (s.setFlags f).instret = s.instret := rfl
@[simp] theorem State.setFlags_halted (f : Flags) : (s.setFlags f).halted = s.halted := rfl
@[simp] theorem State.setFlags_mem (f : Flags) : (s.setFlags f).mem = s.mem := rfl
@[simp] theorem State.setFlags_unmappedCount (f : Flags) : (s.setFlags f).unmappedCount = s.unmappedCount := rfl
@[simp] theorem State.setFlags_intc (f : Flags) : (s.setFlags f).intc = s.intc := rfl
@[simp] theorem State.setFlags_timers (f : Flags) : (s.setFlags f).timers = s.timers := rfl
@[simp] theorem State.setFlags_uart (f : Flags) : (s.setFlags f).uart = s.uart := rfl
@[simp] theorem State.setFlags_vdu (f : Flags) : (s.setFlags f).vdu = s.vdu := rfl
@[simp] theorem State.setFlags_mode (f : Flags) : (s.setFlags f).mode = s.mode := rfl
@[simp] theorem State.setFlags_frameCounter (f : Flags) : (s.setFlags f).frameCounter = s.frameCounter := rfl
@[simp] theorem State.setFlags_sliceRemaining (f : Flags) : (s.setFlags f).sliceRemaining = s.sliceRemaining := rfl
@[simp] theorem State.setFlags_cyclesRemaining (f : Flags) : (s.setFlags f).cyclesRemaining = s.cyclesRemaining := rfl
@[simp] theorem State.setFlags_breakpoints (f : Flags) : (s.setFlags f).breakpoints = s.breakpoints := rfl

/-! ## setCe -/

@[simp] theorem State.setCe_regs (lo hi : Word) : (s.setCe lo hi).regs = s.regs := rfl
@[simp] theorem State.setCe_pc (lo hi : Word) : (s.setCe lo hi).pc = s.pc := rfl
@[simp] theorem State.setCe_flags (lo hi : Word) : (s.setCe lo hi).flags = s.flags := rfl
@[simp] theorem State.setCe_sysRegs (lo hi : Word) : (s.setCe lo hi).sysRegs = s.sysRegs := rfl
@[simp] theorem State.setCe_ctlRegs (lo hi : Word) : (s.setCe lo hi).ctlRegs = s.ctlRegs := rfl
@[simp] theorem State.setCe_cel (lo hi : Word) : (s.setCe lo hi).cel = lo := rfl
@[simp] theorem State.setCe_ceh (lo hi : Word) : (s.setCe lo hi).ceh = hi := rfl
@[simp] theorem State.setCe_cycles (lo hi : Word) : (s.setCe lo hi).cycles = s.cycles := rfl
@[simp] theorem State.setCe_instret (lo hi : Word) : (s.setCe lo hi).instret = s.instret := rfl
@[simp] theorem State.setCe_halted (lo hi : Word) : (s.setCe lo hi).halted = s.halted := rfl
@[simp] theorem State.setCe_mem (lo hi : Word) : (s.setCe lo hi).mem = s.mem := rfl
@[simp] theorem State.setCe_unmappedCount (lo hi : Word) : (s.setCe lo hi).unmappedCount = s.unmappedCount := rfl
@[simp] theorem State.setCe_intc (lo hi : Word) : (s.setCe lo hi).intc = s.intc := rfl
@[simp] theorem State.setCe_timers (lo hi : Word) : (s.setCe lo hi).timers = s.timers := rfl
@[simp] theorem State.setCe_uart (lo hi : Word) : (s.setCe lo hi).uart = s.uart := rfl
@[simp] theorem State.setCe_vdu (lo hi : Word) : (s.setCe lo hi).vdu = s.vdu := rfl
@[simp] theorem State.setCe_mode (lo hi : Word) : (s.setCe lo hi).mode = s.mode := rfl
@[simp] theorem State.setCe_frameCounter (lo hi : Word) : (s.setCe lo hi).frameCounter = s.frameCounter := rfl
@[simp] theorem State.setCe_sliceRemaining (lo hi : Word) : (s.setCe lo hi).sliceRemaining = s.sliceRemaining := rfl
@[simp] theorem State.setCe_cyclesRemaining (lo hi : Word) : (s.setCe lo hi).cyclesRemaining = s.cyclesRemaining := rfl
@[simp] theorem State.setCe_breakpoints (lo hi : Word) : (s.setCe lo hi).breakpoints = s.breakpoints := rfl

/-! ## goto -/

@[simp] theorem State.goto_regs (t : Word) : (s.goto t).regs = s.regs := rfl
@[simp] theorem State.goto_pc (t : Word) : (s.goto t).pc = t := rfl
@[simp] theorem State.goto_flags (t : Word) : (s.goto t).flags = s.flags := rfl
@[simp] theorem State.goto_sysRegs (t : Word) : (s.goto t).sysRegs = s.sysRegs := rfl
@[simp] theorem State.goto_ctlRegs (t : Word) : (s.goto t).ctlRegs = s.ctlRegs := rfl
@[simp] theorem State.goto_cel (t : Word) : (s.goto t).cel = s.cel := rfl
@[simp] theorem State.goto_ceh (t : Word) : (s.goto t).ceh = s.ceh := rfl
@[simp] theorem State.goto_cycles (t : Word) : (s.goto t).cycles = s.cycles := rfl
@[simp] theorem State.goto_instret (t : Word) : (s.goto t).instret = s.instret := rfl
@[simp] theorem State.goto_halted (t : Word) : (s.goto t).halted = s.halted := rfl
@[simp] theorem State.goto_mem (t : Word) : (s.goto t).mem = s.mem := rfl
@[simp] theorem State.goto_unmappedCount (t : Word) : (s.goto t).unmappedCount = s.unmappedCount := rfl
@[simp] theorem State.goto_intc (t : Word) : (s.goto t).intc = s.intc := rfl
@[simp] theorem State.goto_timers (t : Word) : (s.goto t).timers = s.timers := rfl
@[simp] theorem State.goto_uart (t : Word) : (s.goto t).uart = s.uart := rfl
@[simp] theorem State.goto_vdu (t : Word) : (s.goto t).vdu = s.vdu := rfl
@[simp] theorem State.goto_mode (t : Word) : (s.goto t).mode = s.mode := rfl
@[simp] theorem State.goto_frameCounter (t : Word) : (s.goto t).frameCounter = s.frameCounter := rfl
@[simp] theorem State.goto_sliceRemaining (t : Word) : (s.goto t).sliceRemaining = s.sliceRemaining := rfl
@[simp] theorem State.goto_cyclesRemaining (t : Word) : (s.goto t).cyclesRemaining = s.cyclesRemaining := rfl
@[simp] theorem State.goto_breakpoints (t : Word) : (s.goto t).breakpoints = s.breakpoints := rfl

/-! ## countStep -/

@[simp] theorem State.countStep_regs : (s.countStep).regs = s.regs := rfl
@[simp] theorem State.countStep_pc : (s.countStep).pc = s.pc := rfl
@[simp] theorem State.countStep_flags : (s.countStep).flags = s.flags := rfl
@[simp] theorem State.countStep_sysRegs : (s.countStep).sysRegs = s.sysRegs := rfl
@[simp] theorem State.countStep_ctlRegs : (s.countStep).ctlRegs = s.ctlRegs := rfl
@[simp] theorem State.countStep_cel : (s.countStep).cel = s.cel := rfl
@[simp] theorem State.countStep_ceh : (s.countStep).ceh = s.ceh := rfl
@[simp] theorem State.countStep_cycles : (s.countStep).cycles = s.cycles + Config.cyclesPerInstruction := rfl
@[simp] theorem State.countStep_instret : (s.countStep).instret = s.instret + 1 := rfl
@[simp] theorem State.countStep_halted : (s.countStep).halted = s.halted := rfl
@[simp] theorem State.countStep_mem : (s.countStep).mem = s.mem := rfl
@[simp] theorem State.countStep_unmappedCount : (s.countStep).unmappedCount = s.unmappedCount := rfl
@[simp] theorem State.countStep_intc : (s.countStep).intc = s.intc := rfl
@[simp] theorem State.countStep_timers : (s.countStep).timers = s.timers := rfl
@[simp] theorem State.countStep_uart : (s.countStep).uart = s.uart := rfl
@[simp] theorem State.countStep_vdu : (s.countStep).vdu = s.vdu := rfl
@[simp] theorem State.countStep_mode : (s.countStep).mode = s.mode := rfl
@[simp] theorem State.countStep_frameCounter : (s.countStep).frameCounter = s.frameCounter := rfl
@[simp] theorem State.countStep_sliceRemaining : (s.countStep).sliceRemaining = s.sliceRemaining := rfl
@[simp] theorem State.countStep_cyclesRemaining : (s.countStep).cyclesRemaining = s.cyclesRemaining := rfl
@[simp] theorem State.countStep_breakpoints : (s.countStep).breakpoints = s.breakpoints := rfl

/-! ## countUnmapped -/

@[simp] theorem State.countUnmapped_regs : (s.countUnmapped).regs = s.regs := rfl
@[simp] theorem State.countUnmapped_pc : (s.countUnmapped).pc = s.pc := rfl
@[simp] theorem State.countUnmapped_flags : (s.countUnmapped).flags = s.flags := rfl
@[simp] theorem State.countUnmapped_sysRegs : (s.countUnmapped).sysRegs = s.sysRegs := rfl
@[simp] theorem State.countUnmapped_ctlRegs : (s.countUnmapped).ctlRegs = s.ctlRegs := rfl
@[simp] theorem State.countUnmapped_cel : (s.countUnmapped).cel = s.cel := rfl
@[simp] theorem State.countUnmapped_ceh : (s.countUnmapped).ceh = s.ceh := rfl
@[simp] theorem State.countUnmapped_cycles : (s.countUnmapped).cycles = s.cycles := rfl
@[simp] theorem State.countUnmapped_instret : (s.countUnmapped).instret = s.instret := rfl
@[simp] theorem State.countUnmapped_halted : (s.countUnmapped).halted = s.halted := rfl
@[simp] theorem State.countUnmapped_mem : (s.countUnmapped).mem = s.mem := rfl
@[simp] theorem State.countUnmapped_unmappedCount : (s.countUnmapped).unmappedCount = s.unmappedCount + 1 := rfl
@[simp] theorem State.countUnmapped_intc : (s.countUnmapped).intc = s.intc := rfl
@[simp] theorem State.countUnmapped_timers : (s.countUnmapped).timers = s.timers := rfl
@[simp] theorem State.countUnmapped_uart : (s.countUnmapped).uart = s.uart := rfl
@[simp] theorem State.countUnmapped_vdu : (s.countUnmapped).vdu = s.vdu := rfl
@[simp] theorem State.countUnmapped_mode : (s.countUnmapped).mode = s.mode := rfl
@[simp] theorem State.countUnmapped_frameCounter : (s.countUnmapped).frameCounter = s.frameCounter := rfl
@[simp] theorem State.countUnmapped_sliceRemaining : (s.countUnmapped).sliceRemaining = s.sliceRemaining := rfl
@[simp] theorem State.countUnmapped_cyclesRemaining : (s.countUnmapped).cyclesRemaining = s.cyclesRemaining := rfl
@[simp] theorem State.countUnmapped_breakpoints : (s.countUnmapped).breakpoints = s.breakpoints := rfl

/-! ## setMem -/

@[simp] theorem State.setMem_regs (m : Memory) : (s.setMem m).regs = s.regs := rfl
@[simp] theorem State.setMem_pc (m : Memory) : (s.setMem m).pc = s.pc := rfl
@[simp] theorem State.setMem_flags (m : Memory) : (s.setMem m).flags = s.flags := rfl
@[simp] theorem State.setMem_sysRegs (m : Memory) : (s.setMem m).sysRegs = s.sysRegs := rfl
@[simp] theorem State.setMem_ctlRegs (m : Memory) : (s.setMem m).ctlRegs = s.ctlRegs := rfl
@[simp] theorem State.setMem_cel (m : Memory) : (s.setMem m).cel = s.cel := rfl
@[simp] theorem State.setMem_ceh (m : Memory) : (s.setMem m).ceh = s.ceh := rfl
@[simp] theorem State.setMem_cycles (m : Memory) : (s.setMem m).cycles = s.cycles := rfl
@[simp] theorem State.setMem_instret (m : Memory) : (s.setMem m).instret = s.instret := rfl
@[simp] theorem State.setMem_halted (m : Memory) : (s.setMem m).halted = s.halted := rfl
@[simp] theorem State.setMem_mem (m : Memory) : (s.setMem m).mem = m := rfl
@[simp] theorem State.setMem_unmappedCount (m : Memory) : (s.setMem m).unmappedCount = s.unmappedCount := rfl
@[simp] theorem State.setMem_intc (m : Memory) : (s.setMem m).intc = s.intc := rfl
@[simp] theorem State.setMem_timers (m : Memory) : (s.setMem m).timers = s.timers := rfl
@[simp] theorem State.setMem_uart (m : Memory) : (s.setMem m).uart = s.uart := rfl
@[simp] theorem State.setMem_vdu (m : Memory) : (s.setMem m).vdu = s.vdu := rfl
@[simp] theorem State.setMem_mode (m : Memory) : (s.setMem m).mode = s.mode := rfl
@[simp] theorem State.setMem_frameCounter (m : Memory) : (s.setMem m).frameCounter = s.frameCounter := rfl
@[simp] theorem State.setMem_sliceRemaining (m : Memory) : (s.setMem m).sliceRemaining = s.sliceRemaining := rfl
@[simp] theorem State.setMem_cyclesRemaining (m : Memory) : (s.setMem m).cyclesRemaining = s.cyclesRemaining := rfl
@[simp] theorem State.setMem_breakpoints (m : Memory) : (s.setMem m).breakpoints = s.breakpoints := rfl

/-! ## setUart -/

@[simp] theorem State.setUart_regs (u : Uart) : (s.setUart u).regs = s.regs := rfl
@[simp] theorem State.setUart_pc (u : Uart) : (s.setUart u).pc = s.pc := rfl
@[simp] theorem State.setUart_flags (u : Uart) : (s.setUart u).flags = s.flags := rfl
@[simp] theorem State.setUart_sysRegs (u : Uart) : (s.setUart u).sysRegs = s.sysRegs := rfl
@[simp] theorem State.setUart_ctlRegs (u : Uart) : (s.setUart u).ctlRegs = s.ctlRegs := rfl
@[simp] theorem State.setUart_cel (u : Uart) : (s.setUart u).cel = s.cel := rfl
@[simp] theorem State.setUart_ceh (u : Uart) : (s.setUart u).ceh = s.ceh := rfl
@[simp] theorem State.setUart_cycles (u : Uart) : (s.setUart u).cycles = s.cycles := rfl
@[simp] theorem State.setUart_instret (u : Uart) : (s.setUart u).instret = s.instret := rfl
@[simp] theorem State.setUart_halted (u : Uart) : (s.setUart u).halted = s.halted := rfl
@[simp] theorem State.setUart_mem (u : Uart) : (s.setUart u).mem = s.mem := rfl
@[simp] theorem State.setUart_unmappedCount (u : Uart) : (s.setUart u).unmappedCount = s.unmappedCount := rfl
@[simp] theorem State.setUart_intc (u : Uart) : (s.setUart u).intc = s.intc := rfl
@[simp] theorem State.setUart_timers (u : Uart) : (s.setUart u).timers = s.timers := rfl
@[simp] theorem State.setUart_uart (u : Uart) : (s.setUart u).uart = u := rfl
@[simp] theorem State.setUart_vdu (u : Uart) : (s.setUart u).vdu = s.vdu := rfl
@[simp] theorem State.setUart_mode (u : Uart) : (s.setUart u).mode = s.mode := rfl
@[simp] theorem State.setUart_frameCounter (u : Uart) : (s.setUart u).frameCounter = s.frameCounter := rfl
@[simp] theorem State.setUart_sliceRemaining (u : Uart) : (s.setUart u).sliceRemaining = s.sliceRemaining := rfl
@[simp] theorem State.setUart_cyclesRemaining (u : Uart) : (s.setUart u).cyclesRemaining = s.cyclesRemaining := rfl
@[simp] theorem State.setUart_breakpoints (u : Uart) : (s.setUart u).breakpoints = s.breakpoints := rfl

/-! ## setIntc -/

@[simp] theorem State.setIntc_regs (c : Intc) : (s.setIntc c).regs = s.regs := rfl
@[simp] theorem State.setIntc_pc (c : Intc) : (s.setIntc c).pc = s.pc := rfl
@[simp] theorem State.setIntc_flags (c : Intc) : (s.setIntc c).flags = s.flags := rfl
@[simp] theorem State.setIntc_sysRegs (c : Intc) : (s.setIntc c).sysRegs = s.sysRegs := rfl
@[simp] theorem State.setIntc_ctlRegs (c : Intc) : (s.setIntc c).ctlRegs = s.ctlRegs := rfl
@[simp] theorem State.setIntc_cel (c : Intc) : (s.setIntc c).cel = s.cel := rfl
@[simp] theorem State.setIntc_ceh (c : Intc) : (s.setIntc c).ceh = s.ceh := rfl
@[simp] theorem State.setIntc_cycles (c : Intc) : (s.setIntc c).cycles = s.cycles := rfl
@[simp] theorem State.setIntc_instret (c : Intc) : (s.setIntc c).instret = s.instret := rfl
@[simp] theorem State.setIntc_halted (c : Intc) : (s.setIntc c).halted = s.halted := rfl
@[simp] theorem State.setIntc_mem (c : Intc) : (s.setIntc c).mem = s.mem := rfl
@[simp] theorem State.setIntc_unmappedCount (c : Intc) : (s.setIntc c).unmappedCount = s.unmappedCount := rfl
@[simp] theorem State.setIntc_intc (c : Intc) : (s.setIntc c).intc = c := rfl
@[simp] theorem State.setIntc_timers (c : Intc) : (s.setIntc c).timers = s.timers := rfl
@[simp] theorem State.setIntc_uart (c : Intc) : (s.setIntc c).uart = s.uart := rfl
@[simp] theorem State.setIntc_vdu (c : Intc) : (s.setIntc c).vdu = s.vdu := rfl
@[simp] theorem State.setIntc_mode (c : Intc) : (s.setIntc c).mode = s.mode := rfl
@[simp] theorem State.setIntc_frameCounter (c : Intc) : (s.setIntc c).frameCounter = s.frameCounter := rfl
@[simp] theorem State.setIntc_sliceRemaining (c : Intc) : (s.setIntc c).sliceRemaining = s.sliceRemaining := rfl
@[simp] theorem State.setIntc_cyclesRemaining (c : Intc) : (s.setIntc c).cyclesRemaining = s.cyclesRemaining := rfl
@[simp] theorem State.setIntc_breakpoints (c : Intc) : (s.setIntc c).breakpoints = s.breakpoints := rfl

/-! ## setTimers -/

@[simp] theorem State.setTimers_regs (t : TimerBlock) : (s.setTimers t).regs = s.regs := rfl
@[simp] theorem State.setTimers_pc (t : TimerBlock) : (s.setTimers t).pc = s.pc := rfl
@[simp] theorem State.setTimers_flags (t : TimerBlock) : (s.setTimers t).flags = s.flags := rfl
@[simp] theorem State.setTimers_sysRegs (t : TimerBlock) : (s.setTimers t).sysRegs = s.sysRegs := rfl
@[simp] theorem State.setTimers_ctlRegs (t : TimerBlock) : (s.setTimers t).ctlRegs = s.ctlRegs := rfl
@[simp] theorem State.setTimers_cel (t : TimerBlock) : (s.setTimers t).cel = s.cel := rfl
@[simp] theorem State.setTimers_ceh (t : TimerBlock) : (s.setTimers t).ceh = s.ceh := rfl
@[simp] theorem State.setTimers_cycles (t : TimerBlock) : (s.setTimers t).cycles = s.cycles := rfl
@[simp] theorem State.setTimers_instret (t : TimerBlock) : (s.setTimers t).instret = s.instret := rfl
@[simp] theorem State.setTimers_halted (t : TimerBlock) : (s.setTimers t).halted = s.halted := rfl
@[simp] theorem State.setTimers_mem (t : TimerBlock) : (s.setTimers t).mem = s.mem := rfl
@[simp] theorem State.setTimers_unmappedCount (t : TimerBlock) : (s.setTimers t).unmappedCount = s.unmappedCount := rfl
@[simp] theorem State.setTimers_intc (t : TimerBlock) : (s.setTimers t).intc = s.intc := rfl
@[simp] theorem State.setTimers_timers (t : TimerBlock) : (s.setTimers t).timers = t := rfl
@[simp] theorem State.setTimers_uart (t : TimerBlock) : (s.setTimers t).uart = s.uart := rfl
@[simp] theorem State.setTimers_vdu (t : TimerBlock) : (s.setTimers t).vdu = s.vdu := rfl
@[simp] theorem State.setTimers_mode (t : TimerBlock) : (s.setTimers t).mode = s.mode := rfl
@[simp] theorem State.setTimers_frameCounter (t : TimerBlock) : (s.setTimers t).frameCounter = s.frameCounter := rfl
@[simp] theorem State.setTimers_sliceRemaining (t : TimerBlock) : (s.setTimers t).sliceRemaining = s.sliceRemaining := rfl
@[simp] theorem State.setTimers_cyclesRemaining (t : TimerBlock) : (s.setTimers t).cyclesRemaining = s.cyclesRemaining := rfl
@[simp] theorem State.setTimers_breakpoints (t : TimerBlock) : (s.setTimers t).breakpoints = s.breakpoints := rfl

/-! ## setVdu -/

@[simp] theorem State.setVdu_regs (v : Vdu) : (s.setVdu v).regs = s.regs := rfl
@[simp] theorem State.setVdu_pc (v : Vdu) : (s.setVdu v).pc = s.pc := rfl
@[simp] theorem State.setVdu_flags (v : Vdu) : (s.setVdu v).flags = s.flags := rfl
@[simp] theorem State.setVdu_sysRegs (v : Vdu) : (s.setVdu v).sysRegs = s.sysRegs := rfl
@[simp] theorem State.setVdu_ctlRegs (v : Vdu) : (s.setVdu v).ctlRegs = s.ctlRegs := rfl
@[simp] theorem State.setVdu_cel (v : Vdu) : (s.setVdu v).cel = s.cel := rfl
@[simp] theorem State.setVdu_ceh (v : Vdu) : (s.setVdu v).ceh = s.ceh := rfl
@[simp] theorem State.setVdu_cycles (v : Vdu) : (s.setVdu v).cycles = s.cycles := rfl
@[simp] theorem State.setVdu_instret (v : Vdu) : (s.setVdu v).instret = s.instret := rfl
@[simp] theorem State.setVdu_halted (v : Vdu) : (s.setVdu v).halted = s.halted := rfl
@[simp] theorem State.setVdu_mem (v : Vdu) : (s.setVdu v).mem = s.mem := rfl
@[simp] theorem State.setVdu_unmappedCount (v : Vdu) : (s.setVdu v).unmappedCount = s.unmappedCount := rfl
@[simp] theorem State.setVdu_intc (v : Vdu) : (s.setVdu v).intc = s.intc := rfl
@[simp] theorem State.setVdu_timers (v : Vdu) : (s.setVdu v).timers = s.timers := rfl
@[simp] theorem State.setVdu_uart (v : Vdu) : (s.setVdu v).uart = s.uart := rfl
@[simp] theorem State.setVdu_vdu (v : Vdu) : (s.setVdu v).vdu = v := rfl
@[simp] theorem State.setVdu_mode (v : Vdu) : (s.setVdu v).mode = s.mode := rfl
@[simp] theorem State.setVdu_frameCounter (v : Vdu) : (s.setVdu v).frameCounter = s.frameCounter := rfl
@[simp] theorem State.setVdu_sliceRemaining (v : Vdu) : (s.setVdu v).sliceRemaining = s.sliceRemaining := rfl
@[simp] theorem State.setVdu_cyclesRemaining (v : Vdu) : (s.setVdu v).cyclesRemaining = s.cyclesRemaining := rfl
@[simp] theorem State.setVdu_breakpoints (v : Vdu) : (s.setVdu v).breakpoints = s.breakpoints := rfl

/-! ## advance32 -/

@[simp] theorem State.advance32_regs : (s.advance32).regs = s.regs := rfl
@[simp] theorem State.advance32_pc : (s.advance32).pc = next32 s.pc := rfl
@[simp] theorem State.advance32_flags : (s.advance32).flags = s.flags := rfl
@[simp] theorem State.advance32_sysRegs : (s.advance32).sysRegs = s.sysRegs := rfl
@[simp] theorem State.advance32_ctlRegs : (s.advance32).ctlRegs = s.ctlRegs := rfl
@[simp] theorem State.advance32_cel : (s.advance32).cel = s.cel := rfl
@[simp] theorem State.advance32_ceh : (s.advance32).ceh = s.ceh := rfl
@[simp] theorem State.advance32_cycles : (s.advance32).cycles = s.cycles := rfl
@[simp] theorem State.advance32_instret : (s.advance32).instret = s.instret := rfl
@[simp] theorem State.advance32_halted : (s.advance32).halted = s.halted := rfl
@[simp] theorem State.advance32_mem : (s.advance32).mem = s.mem := rfl
@[simp] theorem State.advance32_unmappedCount : (s.advance32).unmappedCount = s.unmappedCount := rfl
@[simp] theorem State.advance32_intc : (s.advance32).intc = s.intc := rfl
@[simp] theorem State.advance32_timers : (s.advance32).timers = s.timers := rfl
@[simp] theorem State.advance32_uart : (s.advance32).uart = s.uart := rfl
@[simp] theorem State.advance32_vdu : (s.advance32).vdu = s.vdu := rfl
@[simp] theorem State.advance32_mode : (s.advance32).mode = s.mode := rfl
@[simp] theorem State.advance32_frameCounter : (s.advance32).frameCounter = s.frameCounter := rfl
@[simp] theorem State.advance32_sliceRemaining : (s.advance32).sliceRemaining = s.sliceRemaining := rfl
@[simp] theorem State.advance32_cyclesRemaining : (s.advance32).cyclesRemaining = s.cyclesRemaining := rfl
@[simp] theorem State.advance32_breakpoints : (s.advance32).breakpoints = s.breakpoints := rfl

/-! ## link -/

@[simp] theorem State.link_regs (t : Word) : (s.link t).regs = s.regs.set Config.linkReg.toNat t := rfl
@[simp] theorem State.link_pc (t : Word) : (s.link t).pc = s.pc := rfl
@[simp] theorem State.link_flags (t : Word) : (s.link t).flags = s.flags := rfl
@[simp] theorem State.link_sysRegs (t : Word) : (s.link t).sysRegs = s.sysRegs := rfl
@[simp] theorem State.link_ctlRegs (t : Word) : (s.link t).ctlRegs = s.ctlRegs := rfl
@[simp] theorem State.link_cel (t : Word) : (s.link t).cel = s.cel := rfl
@[simp] theorem State.link_ceh (t : Word) : (s.link t).ceh = s.ceh := rfl
@[simp] theorem State.link_cycles (t : Word) : (s.link t).cycles = s.cycles := rfl
@[simp] theorem State.link_instret (t : Word) : (s.link t).instret = s.instret := rfl
@[simp] theorem State.link_halted (t : Word) : (s.link t).halted = s.halted := rfl
@[simp] theorem State.link_mem (t : Word) : (s.link t).mem = s.mem := rfl
@[simp] theorem State.link_unmappedCount (t : Word) : (s.link t).unmappedCount = s.unmappedCount := rfl
@[simp] theorem State.link_intc (t : Word) : (s.link t).intc = s.intc := rfl
@[simp] theorem State.link_timers (t : Word) : (s.link t).timers = s.timers := rfl
@[simp] theorem State.link_uart (t : Word) : (s.link t).uart = s.uart := rfl
@[simp] theorem State.link_vdu (t : Word) : (s.link t).vdu = s.vdu := rfl
@[simp] theorem State.link_mode (t : Word) : (s.link t).mode = s.mode := rfl
@[simp] theorem State.link_frameCounter (t : Word) : (s.link t).frameCounter = s.frameCounter := rfl
@[simp] theorem State.link_sliceRemaining (t : Word) : (s.link t).sliceRemaining = s.sliceRemaining := rfl
@[simp] theorem State.link_cyclesRemaining (t : Word) : (s.link t).cyclesRemaining = s.cyclesRemaining := rfl
@[simp] theorem State.link_breakpoints (t : Word) : (s.link t).breakpoints = s.breakpoints := rfl

/-! ## returnFromException -/

@[simp] theorem State.returnFromException_regs : (s.returnFromException).regs = s.regs := rfl
@[simp] theorem State.returnFromException_pc : (s.returnFromException).pc = s.cr 5#5 := rfl
@[simp] theorem State.returnFromException_flags : (s.returnFromException).flags = Flags.unpack (s.cr 1#5) := rfl
@[simp] theorem State.returnFromException_sysRegs : (s.returnFromException).sysRegs = s.sysRegs := rfl
@[simp] theorem State.returnFromException_ctlRegs : (s.returnFromException).ctlRegs = s.ctlRegs := rfl
@[simp] theorem State.returnFromException_cel : (s.returnFromException).cel = s.cel := rfl
@[simp] theorem State.returnFromException_ceh : (s.returnFromException).ceh = s.ceh := rfl
@[simp] theorem State.returnFromException_cycles : (s.returnFromException).cycles = s.cycles := rfl
@[simp] theorem State.returnFromException_instret : (s.returnFromException).instret = s.instret := rfl
@[simp] theorem State.returnFromException_halted : (s.returnFromException).halted = s.halted := rfl
@[simp] theorem State.returnFromException_mem : (s.returnFromException).mem = s.mem := rfl
@[simp] theorem State.returnFromException_unmappedCount : (s.returnFromException).unmappedCount = s.unmappedCount := rfl
@[simp] theorem State.returnFromException_intc : (s.returnFromException).intc = s.intc := rfl
@[simp] theorem State.returnFromException_timers : (s.returnFromException).timers = s.timers := rfl
@[simp] theorem State.returnFromException_uart : (s.returnFromException).uart = s.uart := rfl
@[simp] theorem State.returnFromException_vdu : (s.returnFromException).vdu = s.vdu := rfl
@[simp] theorem State.returnFromException_mode : (s.returnFromException).mode = s.mode := rfl
@[simp] theorem State.returnFromException_frameCounter : (s.returnFromException).frameCounter = s.frameCounter := rfl
@[simp] theorem State.returnFromException_sliceRemaining : (s.returnFromException).sliceRemaining = s.sliceRemaining := rfl
@[simp] theorem State.returnFromException_cyclesRemaining : (s.returnFromException).cyclesRemaining = s.cyclesRemaining := rfl
@[simp] theorem State.returnFromException_breakpoints : (s.returnFromException).breakpoints = s.breakpoints := rfl

/-! ## advance16 -/

@[simp] theorem State.advance16_regs (m : SlotMode) : (s.advance16 m).regs = s.regs := rfl
@[simp] theorem State.advance16_pc (m : SlotMode) : (s.advance16 m).pc = next16 m s.pc := rfl
@[simp] theorem State.advance16_flags (m : SlotMode) : (s.advance16 m).flags = s.flags := rfl
@[simp] theorem State.advance16_sysRegs (m : SlotMode) : (s.advance16 m).sysRegs = s.sysRegs := rfl
@[simp] theorem State.advance16_ctlRegs (m : SlotMode) : (s.advance16 m).ctlRegs = s.ctlRegs := rfl
@[simp] theorem State.advance16_cel (m : SlotMode) : (s.advance16 m).cel = s.cel := rfl
@[simp] theorem State.advance16_ceh (m : SlotMode) : (s.advance16 m).ceh = s.ceh := rfl
@[simp] theorem State.advance16_cycles (m : SlotMode) : (s.advance16 m).cycles = s.cycles := rfl
@[simp] theorem State.advance16_instret (m : SlotMode) : (s.advance16 m).instret = s.instret := rfl
@[simp] theorem State.advance16_halted (m : SlotMode) : (s.advance16 m).halted = s.halted := rfl
@[simp] theorem State.advance16_mem (m : SlotMode) : (s.advance16 m).mem = s.mem := rfl
@[simp] theorem State.advance16_unmappedCount (m : SlotMode) : (s.advance16 m).unmappedCount = s.unmappedCount := rfl
@[simp] theorem State.advance16_intc (m : SlotMode) : (s.advance16 m).intc = s.intc := rfl
@[simp] theorem State.advance16_timers (m : SlotMode) : (s.advance16 m).timers = s.timers := rfl
@[simp] theorem State.advance16_uart (m : SlotMode) : (s.advance16 m).uart = s.uart := rfl
@[simp] theorem State.advance16_vdu (m : SlotMode) : (s.advance16 m).vdu = s.vdu := rfl
@[simp] theorem State.advance16_mode (m : SlotMode) : (s.advance16 m).mode = s.mode := rfl
@[simp] theorem State.advance16_frameCounter (m : SlotMode) : (s.advance16 m).frameCounter = s.frameCounter := rfl
@[simp] theorem State.advance16_sliceRemaining (m : SlotMode) : (s.advance16 m).sliceRemaining = s.sliceRemaining := rfl
@[simp] theorem State.advance16_cyclesRemaining (m : SlotMode) : (s.advance16 m).cyclesRemaining = s.cyclesRemaining := rfl
@[simp] theorem State.advance16_breakpoints (m : SlotMode) : (s.advance16 m).breakpoints = s.breakpoints := rfl

/-! ## setSr: sr0 is the flags, the rest is storage -/

@[simp] theorem State.setSr_regs (i : Reg) (v : Word) : (s.setSr i v).regs = s.regs := by unfold State.setSr; split <;> rfl
@[simp] theorem State.setSr_pc (i : Reg) (v : Word) : (s.setSr i v).pc = s.pc := by unfold State.setSr; split <;> rfl
@[simp] theorem State.setSr_ctlRegs (i : Reg) (v : Word) : (s.setSr i v).ctlRegs = s.ctlRegs := by unfold State.setSr; split <;> rfl
@[simp] theorem State.setSr_cel (i : Reg) (v : Word) : (s.setSr i v).cel = s.cel := by unfold State.setSr; split <;> rfl
@[simp] theorem State.setSr_ceh (i : Reg) (v : Word) : (s.setSr i v).ceh = s.ceh := by unfold State.setSr; split <;> rfl
@[simp] theorem State.setSr_cycles (i : Reg) (v : Word) : (s.setSr i v).cycles = s.cycles := by unfold State.setSr; split <;> rfl
@[simp] theorem State.setSr_instret (i : Reg) (v : Word) : (s.setSr i v).instret = s.instret := by unfold State.setSr; split <;> rfl
@[simp] theorem State.setSr_halted (i : Reg) (v : Word) : (s.setSr i v).halted = s.halted := by unfold State.setSr; split <;> rfl
@[simp] theorem State.setSr_mem (i : Reg) (v : Word) : (s.setSr i v).mem = s.mem := by unfold State.setSr; split <;> rfl
@[simp] theorem State.setSr_unmappedCount (i : Reg) (v : Word) : (s.setSr i v).unmappedCount = s.unmappedCount := by unfold State.setSr; split <;> rfl
@[simp] theorem State.setSr_intc (i : Reg) (v : Word) : (s.setSr i v).intc = s.intc := by unfold State.setSr; split <;> rfl
@[simp] theorem State.setSr_timers (i : Reg) (v : Word) : (s.setSr i v).timers = s.timers := by unfold State.setSr; split <;> rfl
@[simp] theorem State.setSr_uart (i : Reg) (v : Word) : (s.setSr i v).uart = s.uart := by unfold State.setSr; split <;> rfl
@[simp] theorem State.setSr_vdu (i : Reg) (v : Word) : (s.setSr i v).vdu = s.vdu := by unfold State.setSr; split <;> rfl
@[simp] theorem State.setSr_mode (i : Reg) (v : Word) : (s.setSr i v).mode = s.mode := by unfold State.setSr; split <;> rfl
@[simp] theorem State.setSr_frameCounter (i : Reg) (v : Word) : (s.setSr i v).frameCounter = s.frameCounter := by unfold State.setSr; split <;> rfl
@[simp] theorem State.setSr_sliceRemaining (i : Reg) (v : Word) : (s.setSr i v).sliceRemaining = s.sliceRemaining := by unfold State.setSr; split <;> rfl
@[simp] theorem State.setSr_cyclesRemaining (i : Reg) (v : Word) : (s.setSr i v).cyclesRemaining = s.cyclesRemaining := by unfold State.setSr; split <;> rfl
@[simp] theorem State.setSr_breakpoints (i : Reg) (v : Word) : (s.setSr i v).breakpoints = s.breakpoints := by unfold State.setSr; split <;> rfl
theorem State.setSr_zero (v : Word) : s.setSr 0#5 v = s.setFlags (Flags.unpack v) := rfl
theorem State.setSr_of_ne (i : Reg) (v : Word) (h : i ≠ 0#5) :
    s.setSr i v = { s with sysRegs := s.sysRegs.set (srIndex i) v } := by simp [State.setSr, h]

/-! ## enter: R401 changes cr0, cr1, cr2, cr5 and pc -/

@[simp] theorem State.enter_regs (c : Cause) : (s.enter c).regs = s.regs := rfl
@[simp] theorem State.enter_flags (c : Cause) : (s.enter c).flags = s.flags := rfl
@[simp] theorem State.enter_sysRegs (c : Cause) : (s.enter c).sysRegs = s.sysRegs := rfl
@[simp] theorem State.enter_cel (c : Cause) : (s.enter c).cel = s.cel := rfl
@[simp] theorem State.enter_ceh (c : Cause) : (s.enter c).ceh = s.ceh := rfl
@[simp] theorem State.enter_cycles (c : Cause) : (s.enter c).cycles = s.cycles := rfl
@[simp] theorem State.enter_instret (c : Cause) : (s.enter c).instret = s.instret := rfl
@[simp] theorem State.enter_halted (c : Cause) : (s.enter c).halted = s.halted := rfl
@[simp] theorem State.enter_mem (c : Cause) : (s.enter c).mem = s.mem := rfl
@[simp] theorem State.enter_unmappedCount (c : Cause) : (s.enter c).unmappedCount = s.unmappedCount := rfl
@[simp] theorem State.enter_intc (c : Cause) : (s.enter c).intc = s.intc := rfl
@[simp] theorem State.enter_timers (c : Cause) : (s.enter c).timers = s.timers := rfl
@[simp] theorem State.enter_uart (c : Cause) : (s.enter c).uart = s.uart := rfl
@[simp] theorem State.enter_vdu (c : Cause) : (s.enter c).vdu = s.vdu := rfl
@[simp] theorem State.enter_mode (c : Cause) : (s.enter c).mode = s.mode := rfl
@[simp] theorem State.enter_frameCounter (c : Cause) : (s.enter c).frameCounter = s.frameCounter := rfl
@[simp] theorem State.enter_sliceRemaining (c : Cause) : (s.enter c).sliceRemaining = s.sliceRemaining := rfl
@[simp] theorem State.enter_cyclesRemaining (c : Cause) : (s.enter c).cyclesRemaining = s.cyclesRemaining := rfl
@[simp] theorem State.enter_breakpoints (c : Cause) : (s.enter c).breakpoints = s.breakpoints := rfl

/-! ## trigger: R406 changes STATUS and, by entry, the control registers and pc -/

@[simp] theorem State.trigger_regs (n : BitVec 5) : (s.trigger n).regs = s.regs := by
  unfold State.trigger; dsimp only; split <;> rfl
@[simp] theorem State.trigger_flags (n : BitVec 5) : (s.trigger n).flags = s.flags := by
  unfold State.trigger; dsimp only; split <;> rfl
@[simp] theorem State.trigger_sysRegs (n : BitVec 5) : (s.trigger n).sysRegs = s.sysRegs := by
  unfold State.trigger; dsimp only; split <;> rfl
@[simp] theorem State.trigger_cel (n : BitVec 5) : (s.trigger n).cel = s.cel := by
  unfold State.trigger; dsimp only; split <;> rfl
@[simp] theorem State.trigger_ceh (n : BitVec 5) : (s.trigger n).ceh = s.ceh := by
  unfold State.trigger; dsimp only; split <;> rfl
@[simp] theorem State.trigger_cycles (n : BitVec 5) : (s.trigger n).cycles = s.cycles := by
  unfold State.trigger; dsimp only; split <;> rfl
@[simp] theorem State.trigger_instret (n : BitVec 5) : (s.trigger n).instret = s.instret := by
  unfold State.trigger; dsimp only; split <;> rfl
@[simp] theorem State.trigger_halted (n : BitVec 5) : (s.trigger n).halted = s.halted := by
  unfold State.trigger; dsimp only; split <;> rfl
@[simp] theorem State.trigger_mem (n : BitVec 5) : (s.trigger n).mem = s.mem := by
  unfold State.trigger; dsimp only; split <;> rfl
@[simp] theorem State.trigger_unmappedCount (n : BitVec 5) : (s.trigger n).unmappedCount = s.unmappedCount := by
  unfold State.trigger; dsimp only; split <;> rfl
@[simp] theorem State.trigger_timers (n : BitVec 5) : (s.trigger n).timers = s.timers := by
  unfold State.trigger; dsimp only; split <;> rfl
@[simp] theorem State.trigger_uart (n : BitVec 5) : (s.trigger n).uart = s.uart := by
  unfold State.trigger; dsimp only; split <;> rfl
@[simp] theorem State.trigger_vdu (n : BitVec 5) : (s.trigger n).vdu = s.vdu := by
  unfold State.trigger; dsimp only; split <;> rfl
@[simp] theorem State.trigger_mode (n : BitVec 5) : (s.trigger n).mode = s.mode := by
  unfold State.trigger; dsimp only; split <;> rfl
@[simp] theorem State.trigger_frameCounter (n : BitVec 5) : (s.trigger n).frameCounter = s.frameCounter := by
  unfold State.trigger; dsimp only; split <;> rfl
@[simp] theorem State.trigger_sliceRemaining (n : BitVec 5) : (s.trigger n).sliceRemaining = s.sliceRemaining := by
  unfold State.trigger; dsimp only; split <;> rfl
@[simp] theorem State.trigger_cyclesRemaining (n : BitVec 5) : (s.trigger n).cyclesRemaining = s.cyclesRemaining := by
  unfold State.trigger; dsimp only; split <;> rfl
@[simp] theorem State.trigger_breakpoints (n : BitVec 5) : (s.trigger n).breakpoints = s.breakpoints := by
  unfold State.trigger; dsimp only; split <;> rfl

/-! ## Registers read back -/

@[simp] theorem State.x_setX_same (i : Reg) (v : Word) : (s.setX i v).x i = v := by simp [State.x]

theorem State.x_setX_ne (i j : Reg) (v : Word) (h : j ≠ i) : (s.setX i v).x j = s.x j := by
  have : i.toNat ≠ j.toNat := fun e => h (BitVec.eq_of_toNat_eq e.symm)
  simp [State.x, Vector.getElem_set_ne _ _ this]

theorem State.x_setX (i j : Reg) (v : Word) : (s.setX i v).x j = if j = i then v else s.x j := by
  split
  · next h => subst h; simp
  · next h => exact s.x_setX_ne i j v h

@[simp] theorem State.cr_setCr_same (i : Reg) (v : Word) : (s.setCr i v).cr i = v := by simp [State.cr]

theorem State.cr_setCr_ne (i j : Reg) (v : Word) (h : j ≠ i) : (s.setCr i v).cr j = s.cr j := by
  have : i.toNat ≠ j.toNat := fun e => h (BitVec.eq_of_toNat_eq e.symm)
  simp [State.cr, Vector.getElem_set_ne _ _ this]

theorem State.cr_setCr (i j : Reg) (v : Word) : (s.setCr i v).cr j = if j = i then v else s.cr j := by
  split
  · next h => subst h; simp
  · next h => exact s.cr_setCr_ne i j v h

theorem State.sr_setSr_same (i : Reg) (v : Word) (h : i ≠ 0#5) : (s.setSr i v).sr i = v := by
  simp [State.sr, State.setSr, h]

theorem State.sr_setSr_ne (i j : Reg) (v : Word) (h : j ≠ i) (hi : i ≠ 0#5) : (s.setSr i v).sr j = s.sr j := by
  unfold State.sr State.setSr
  simp only [hi, if_false]
  split
  · rfl
  · next hj =>
    have hn : (srIndex i : Nat) ≠ (srIndex j : Nat) := by
      intro e
      apply h
      apply BitVec.eq_of_toNat_eq
      have hi0 : i.toNat ≠ 0 := fun z => hi (BitVec.eq_of_toNat_eq z)
      have hj0 : j.toNat ≠ 0 := fun z => hj (BitVec.eq_of_toNat_eq z)
      simp [srIndex] at e
      omega
    exact Vector.getElem_set_ne _ _ hn

/-! ## The accessors depend on one field each -/

@[simp] theorem State.cr_setX (i : Reg) (v : Word) (j : Reg) : (s.setX i v).cr j = s.cr j := rfl
@[simp] theorem State.sr_setX (i : Reg) (v : Word) (j : Reg) : (s.setX i v).sr j = s.sr j := rfl
@[simp] theorem State.x_setCr (i : Reg) (v : Word) (j : Reg) : (s.setCr i v).x j = s.x j := rfl
@[simp] theorem State.sr_setCr (i : Reg) (v : Word) (j : Reg) : (s.setCr i v).sr j = s.sr j := rfl
@[simp] theorem State.x_setFlags (f : Flags) (j : Reg) : (s.setFlags f).x j = s.x j := rfl
@[simp] theorem State.cr_setFlags (f : Flags) (j : Reg) : (s.setFlags f).cr j = s.cr j := rfl
@[simp] theorem State.x_setCe (lo hi : Word) (j : Reg) : (s.setCe lo hi).x j = s.x j := rfl
@[simp] theorem State.cr_setCe (lo hi : Word) (j : Reg) : (s.setCe lo hi).cr j = s.cr j := rfl
@[simp] theorem State.sr_setCe (lo hi : Word) (j : Reg) : (s.setCe lo hi).sr j = s.sr j := rfl
@[simp] theorem State.x_goto (t : Word) (j : Reg) : (s.goto t).x j = s.x j := rfl
@[simp] theorem State.cr_goto (t : Word) (j : Reg) : (s.goto t).cr j = s.cr j := rfl
@[simp] theorem State.sr_goto (t : Word) (j : Reg) : (s.goto t).sr j = s.sr j := rfl
@[simp] theorem State.x_countStep (j : Reg) : (s.countStep).x j = s.x j := rfl
@[simp] theorem State.cr_countStep (j : Reg) : (s.countStep).cr j = s.cr j := rfl
@[simp] theorem State.sr_countStep (j : Reg) : (s.countStep).sr j = s.sr j := rfl
@[simp] theorem State.x_countUnmapped (j : Reg) : (s.countUnmapped).x j = s.x j := rfl
@[simp] theorem State.cr_countUnmapped (j : Reg) : (s.countUnmapped).cr j = s.cr j := rfl
@[simp] theorem State.sr_countUnmapped (j : Reg) : (s.countUnmapped).sr j = s.sr j := rfl
@[simp] theorem State.x_setMem (m : Memory) (j : Reg) : (s.setMem m).x j = s.x j := rfl
@[simp] theorem State.cr_setMem (m : Memory) (j : Reg) : (s.setMem m).cr j = s.cr j := rfl
@[simp] theorem State.sr_setMem (m : Memory) (j : Reg) : (s.setMem m).sr j = s.sr j := rfl
@[simp] theorem State.x_setUart (u : Uart) (j : Reg) : (s.setUart u).x j = s.x j := rfl
@[simp] theorem State.cr_setUart (u : Uart) (j : Reg) : (s.setUart u).cr j = s.cr j := rfl
@[simp] theorem State.sr_setUart (u : Uart) (j : Reg) : (s.setUart u).sr j = s.sr j := rfl
@[simp] theorem State.x_setIntc (c : Intc) (j : Reg) : (s.setIntc c).x j = s.x j := rfl
@[simp] theorem State.cr_setIntc (c : Intc) (j : Reg) : (s.setIntc c).cr j = s.cr j := rfl
@[simp] theorem State.sr_setIntc (c : Intc) (j : Reg) : (s.setIntc c).sr j = s.sr j := rfl
@[simp] theorem State.x_setTimers (t : TimerBlock) (j : Reg) : (s.setTimers t).x j = s.x j := rfl
@[simp] theorem State.cr_setTimers (t : TimerBlock) (j : Reg) : (s.setTimers t).cr j = s.cr j := rfl
@[simp] theorem State.sr_setTimers (t : TimerBlock) (j : Reg) : (s.setTimers t).sr j = s.sr j := rfl
@[simp] theorem State.x_setVdu (v : Vdu) (j : Reg) : (s.setVdu v).x j = s.x j := rfl
@[simp] theorem State.cr_setVdu (v : Vdu) (j : Reg) : (s.setVdu v).cr j = s.cr j := rfl
@[simp] theorem State.sr_setVdu (v : Vdu) (j : Reg) : (s.setVdu v).sr j = s.sr j := rfl
@[simp] theorem State.x_advance32 (j : Reg) : (s.advance32).x j = s.x j := rfl
@[simp] theorem State.cr_advance32 (j : Reg) : (s.advance32).cr j = s.cr j := rfl
@[simp] theorem State.sr_advance32 (j : Reg) : (s.advance32).sr j = s.sr j := rfl
@[simp] theorem State.cr_link (t : Word) (j : Reg) : (s.link t).cr j = s.cr j := rfl
@[simp] theorem State.sr_link (t : Word) (j : Reg) : (s.link t).sr j = s.sr j := rfl
@[simp] theorem State.x_returnFromException (j : Reg) : (s.returnFromException).x j = s.x j := rfl
@[simp] theorem State.cr_returnFromException (j : Reg) : (s.returnFromException).cr j = s.cr j := rfl
@[simp] theorem State.x_advance16 (m : SlotMode) (j : Reg) : (s.advance16 m).x j = s.x j := rfl
@[simp] theorem State.cr_advance16 (m : SlotMode) (j : Reg) : (s.advance16 m).cr j = s.cr j := rfl
@[simp] theorem State.sr_advance16 (m : SlotMode) (j : Reg) : (s.advance16 m).sr j = s.sr j := rfl
@[simp] theorem State.x_enter (c : Cause) (j : Reg) : (s.enter c).x j = s.x j := rfl
@[simp] theorem State.sr_enter (c : Cause) (j : Reg) : (s.enter c).sr j = s.sr j := rfl
@[simp] theorem State.x_setSr (i : Reg) (v : Word) (j : Reg) : (s.setSr i v).x j = s.x j := by simp [State.x]
@[simp] theorem State.cr_setSr (i : Reg) (v : Word) (j : Reg) : (s.setSr i v).cr j = s.cr j := by simp [State.cr]

end Sys2Proof.Machine
end

