-- ==== Sys2Proof/Laws/Miu.lean ====
section
/-!
SUPPORT. What an access of memory can do: a read changes at most the unmapped counter and the UART, a write at most storage and the
peripherals; and where a write lands (R63 to R75).
-/

namespace Sys2Proof.Machine

/-! ## Reads -/

/-- Only UART DATA has a reader with a side effect (R78). -/
theorem mmioRead_state (w : MmioWord) (s : State) :
    (mmioRead w s).2 = s ∨ (mmioRead w s).2 = s.setUart s.uart.readData.2 := by
  cases w <;> first | exact .inl rfl | exact .inr rfl

/-- All a read can do to the state: nothing, count an unmapped access, or consume a byte of the UART (R63, R78). -/
theorem State.memRead_state (s : State) (a : Word) (sz : Size) :
    (s.memRead a sz).2 = s ∨ (s.memRead a sz).2 = s.countUnmapped ∨ (s.memRead a sz).2 = s.setUart s.uart.readData.2 := by
  unfold State.memRead
  split
  · exact .inr (.inl rfl)
  · exact .inl rfl
  · exact (mmioRead_state _ s).imp id .inr

@[simp] theorem State.memRead_regs (s : State) (a : Word) (sz : Size) : (s.memRead a sz).2.regs = s.regs := by
  rcases s.memRead_state a sz with h | h | h <;> rw [h] <;> rfl
@[simp] theorem State.memRead_pc (s : State) (a : Word) (sz : Size) : (s.memRead a sz).2.pc = s.pc := by
  rcases s.memRead_state a sz with h | h | h <;> rw [h] <;> rfl
@[simp] theorem State.memRead_flags (s : State) (a : Word) (sz : Size) : (s.memRead a sz).2.flags = s.flags := by
  rcases s.memRead_state a sz with h | h | h <;> rw [h] <;> rfl
@[simp] theorem State.memRead_sysRegs (s : State) (a : Word) (sz : Size) : (s.memRead a sz).2.sysRegs = s.sysRegs := by
  rcases s.memRead_state a sz with h | h | h <;> rw [h] <;> rfl
@[simp] theorem State.memRead_ctlRegs (s : State) (a : Word) (sz : Size) : (s.memRead a sz).2.ctlRegs = s.ctlRegs := by
  rcases s.memRead_state a sz with h | h | h <;> rw [h] <;> rfl
@[simp] theorem State.memRead_cel (s : State) (a : Word) (sz : Size) : (s.memRead a sz).2.cel = s.cel := by
  rcases s.memRead_state a sz with h | h | h <;> rw [h] <;> rfl
@[simp] theorem State.memRead_ceh (s : State) (a : Word) (sz : Size) : (s.memRead a sz).2.ceh = s.ceh := by
  rcases s.memRead_state a sz with h | h | h <;> rw [h] <;> rfl
@[simp] theorem State.memRead_cycles (s : State) (a : Word) (sz : Size) : (s.memRead a sz).2.cycles = s.cycles := by
  rcases s.memRead_state a sz with h | h | h <;> rw [h] <;> rfl
@[simp] theorem State.memRead_instret (s : State) (a : Word) (sz : Size) : (s.memRead a sz).2.instret = s.instret := by
  rcases s.memRead_state a sz with h | h | h <;> rw [h] <;> rfl
@[simp] theorem State.memRead_halted (s : State) (a : Word) (sz : Size) : (s.memRead a sz).2.halted = s.halted := by
  rcases s.memRead_state a sz with h | h | h <;> rw [h] <;> rfl
@[simp] theorem State.memRead_mode (s : State) (a : Word) (sz : Size) : (s.memRead a sz).2.mode = s.mode := by
  rcases s.memRead_state a sz with h | h | h <;> rw [h] <;> rfl
@[simp] theorem State.memRead_frameCounter (s : State) (a : Word) (sz : Size) : (s.memRead a sz).2.frameCounter = s.frameCounter := by
  rcases s.memRead_state a sz with h | h | h <;> rw [h] <;> rfl
@[simp] theorem State.memRead_sliceRemaining (s : State) (a : Word) (sz : Size) : (s.memRead a sz).2.sliceRemaining = s.sliceRemaining := by
  rcases s.memRead_state a sz with h | h | h <;> rw [h] <;> rfl
@[simp] theorem State.memRead_cyclesRemaining (s : State) (a : Word) (sz : Size) : (s.memRead a sz).2.cyclesRemaining = s.cyclesRemaining := by
  rcases s.memRead_state a sz with h | h | h <;> rw [h] <;> rfl
@[simp] theorem State.memRead_breakpoints (s : State) (a : Word) (sz : Size) : (s.memRead a sz).2.breakpoints = s.breakpoints := by
  rcases s.memRead_state a sz with h | h | h <;> rw [h] <;> rfl
@[simp] theorem State.memRead_mem (s : State) (a : Word) (sz : Size) : (s.memRead a sz).2.mem = s.mem := by
  rcases s.memRead_state a sz with h | h | h <;> rw [h] <;> rfl
@[simp] theorem State.memRead_intc (s : State) (a : Word) (sz : Size) : (s.memRead a sz).2.intc = s.intc := by
  rcases s.memRead_state a sz with h | h | h <;> rw [h] <;> rfl
@[simp] theorem State.memRead_timers (s : State) (a : Word) (sz : Size) : (s.memRead a sz).2.timers = s.timers := by
  rcases s.memRead_state a sz with h | h | h <;> rw [h] <;> rfl
@[simp] theorem State.memRead_vdu (s : State) (a : Word) (sz : Size) : (s.memRead a sz).2.vdu = s.vdu := by
  rcases s.memRead_state a sz with h | h | h <;> rw [h] <;> rfl

/-! ## Writes -/

/-- All the writer of a word can do to the state: change storage and the peripherals. -/
theorem mmioWrite_state (w : MmioWord) (v : Word) (s : State) :
    mmioWrite w v s = { s with
      mem := (mmioWrite w v s).mem, intc := (mmioWrite w v s).intc, timers := (mmioWrite w v s).timers,
      uart := (mmioWrite w v s).uart, vdu := (mmioWrite w v s).vdu } := by
  cases w <;> rfl

/-- All a store to the MMIO region can do to the state. -/
theorem mmioStore_state (off : BitVec 24) (sz : Size) (v : Word) (s : State) :
    mmioStore off sz v s = { s with
      mem := (mmioStore off sz v s).mem, intc := (mmioStore off sz v s).intc, timers := (mmioStore off sz v s).timers,
      uart := (mmioStore off sz v s).uart, vdu := (mmioStore off sz v s).vdu } := by
  unfold mmioStore
  cases sz with
  | word => exact mmioWrite_state _ v s
  | half | byte =>
    dsimp only
    rcases mmioRead_state (mmioWord (wordIndex off)) s with h | h <;> rw [h] <;> exact (mmioWrite_state _ _ _).trans rfl

/-- All a store can do to the state. -/
theorem State.memWrite_state (s : State) (a : Word) (sz : Size) (v : Word) :
    s.memWrite a sz v = { s with
      mem := (s.memWrite a sz v).mem, unmappedCount := (s.memWrite a sz v).unmappedCount, intc := (s.memWrite a sz v).intc,
      timers := (s.memWrite a sz v).timers, uart := (s.memWrite a sz v).uart, vdu := (s.memWrite a sz v).vdu } := by
  unfold State.memWrite
  split
  · rfl
  · rfl
  · have h := mmioStore_state (offsetOf a) sz v s
    have hu : (mmioStore (offsetOf a) sz v s).unmappedCount = s.unmappedCount := by rw [h]
    rw [hu]
    exact h

@[simp] theorem State.memWrite_regs (s : State) (a : Word) (sz : Size) (v : Word) : (s.memWrite a sz v).regs = s.regs := by
  rw [s.memWrite_state a sz v]
@[simp] theorem State.memWrite_pc (s : State) (a : Word) (sz : Size) (v : Word) : (s.memWrite a sz v).pc = s.pc := by
  rw [s.memWrite_state a sz v]
@[simp] theorem State.memWrite_flags (s : State) (a : Word) (sz : Size) (v : Word) : (s.memWrite a sz v).flags = s.flags := by
  rw [s.memWrite_state a sz v]
@[simp] theorem State.memWrite_sysRegs (s : State) (a : Word) (sz : Size) (v : Word) : (s.memWrite a sz v).sysRegs = s.sysRegs := by
  rw [s.memWrite_state a sz v]
@[simp] theorem State.memWrite_ctlRegs (s : State) (a : Word) (sz : Size) (v : Word) : (s.memWrite a sz v).ctlRegs = s.ctlRegs := by
  rw [s.memWrite_state a sz v]
@[simp] theorem State.memWrite_cel (s : State) (a : Word) (sz : Size) (v : Word) : (s.memWrite a sz v).cel = s.cel := by
  rw [s.memWrite_state a sz v]
@[simp] theorem State.memWrite_ceh (s : State) (a : Word) (sz : Size) (v : Word) : (s.memWrite a sz v).ceh = s.ceh := by
  rw [s.memWrite_state a sz v]
@[simp] theorem State.memWrite_cycles (s : State) (a : Word) (sz : Size) (v : Word) : (s.memWrite a sz v).cycles = s.cycles := by
  rw [s.memWrite_state a sz v]
@[simp] theorem State.memWrite_instret (s : State) (a : Word) (sz : Size) (v : Word) : (s.memWrite a sz v).instret = s.instret := by
  rw [s.memWrite_state a sz v]
@[simp] theorem State.memWrite_halted (s : State) (a : Word) (sz : Size) (v : Word) : (s.memWrite a sz v).halted = s.halted := by
  rw [s.memWrite_state a sz v]
@[simp] theorem State.memWrite_mode (s : State) (a : Word) (sz : Size) (v : Word) : (s.memWrite a sz v).mode = s.mode := by
  rw [s.memWrite_state a sz v]
@[simp] theorem State.memWrite_frameCounter (s : State) (a : Word) (sz : Size) (v : Word) : (s.memWrite a sz v).frameCounter = s.frameCounter := by
  rw [s.memWrite_state a sz v]
@[simp] theorem State.memWrite_sliceRemaining (s : State) (a : Word) (sz : Size) (v : Word) : (s.memWrite a sz v).sliceRemaining = s.sliceRemaining := by
  rw [s.memWrite_state a sz v]
@[simp] theorem State.memWrite_cyclesRemaining (s : State) (a : Word) (sz : Size) (v : Word) : (s.memWrite a sz v).cyclesRemaining = s.cyclesRemaining := by
  rw [s.memWrite_state a sz v]
@[simp] theorem State.memWrite_breakpoints (s : State) (a : Word) (sz : Size) (v : Word) : (s.memWrite a sz v).breakpoints = s.breakpoints := by
  rw [s.memWrite_state a sz v]

@[simp] theorem State.x_memRead (s : State) (a : Word) (sz : Size) (j : Reg) : (s.memRead a sz).2.x j = s.x j := by simp [State.x]
@[simp] theorem State.x_memWrite (s : State) (a : Word) (sz : Size) (v : Word) (j : Reg) : (s.memWrite a sz v).x j = s.x j := by
  simp [State.x]

/-- No writer changes the pixel array or the VDU's counters. -/
theorem mmioWrite_pixels (w : MmioWord) (v : Word) (s : State) : (mmioWrite w v s).vdu.pixels = s.vdu.pixels := by
  cases w <;> rfl

/-- VDU STATUS is read-only from software (R473). -/
theorem mmioWrite_vduStatus (w : MmioWord) (v : Word) (s : State) : (mmioWrite w v s).vdu.status = s.vdu.status := by
  cases w <;> rfl

/-! ## The canonical form -/

theorem wf_mmioWrite (w : MmioWord) (v : Word) (s : State) (h : s.mem.wf) : (mmioWrite w v s).mem.wf := by
  cases w <;> first | exact h | exact Memory.wf_writeLE _ _ _ _ h

/-- A store keeps the canonical form of storage. -/
theorem State.wf_memWrite (s : State) (a : Word) (sz : Size) (v : Word) (h : s.mem.wf) : (s.memWrite a sz v).mem.wf := by
  unfold State.memWrite
  split
  · exact h
  · unfold backingWrite
    split
    · exact Memory.wf_writeLE _ _ _ _ h
    · exact h
  · unfold mmioStore
    dsimp only
    split
    · exact wf_mmioWrite _ _ _ h
    all_goals
      refine wf_mmioWrite _ _ _ ?_
      rcases mmioRead_state (mmioWord (wordIndex (offsetOf a))) s with e | e <;> rw [e] <;> exact h

/-! ## Where a write lands -/

/-- A backing-array write leaves every byte outside the place the store lands at. -/
theorem read_backingWrite (b : Config.Backing) (m : Memory) (off : BitVec 24) (sz : Size) (v : Word) (x : Nat)
    (h : ∀ p, backingStorePlace b off sz = some p → x < p ∨ p + sz.bytes ≤ x) :
    (backingWrite b m off sz v).read x = m.read x := by
  unfold backingWrite
  split
  · next p hp => exact Memory.read_writeLE_outside _ _ _ _ _ (h p hp)
  · rfl

end Sys2Proof.Machine
end

