-- ==== Sys2Proof/Laws/Engine.lean ====
section
/-!
SUPPORT. What the interrupt controller, the timer block, the VDU and the engine can change, said once each; and the cases of a step.
-/

namespace Sys2Proof.Machine

/-! ## Exceptions and interrupts -/

/-- Entry changes control registers and pc alone (R401). -/
theorem State.enter_state (s : State) (c : Cause) :
    s.enter c = { s with ctlRegs := (s.enter c).ctlRegs, pc := (s.enter c).pc } := rfl

/-- All a trigger can do (R406). -/
theorem State.trigger_state (s : State) (n : BitVec 5) :
    s.trigger n = { s with
      intc := { s.intc with status := s.intc.status ||| (1#32 <<< n.toNat) }
      ctlRegs := (s.trigger n).ctlRegs, pc := (s.trigger n).pc } := by
  unfold State.trigger
  dsimp only
  split <;> rfl

/-! ## The timer block: it changes the channels and, by an interrupt, the controller, the control registers and pc -/

/-- Two states that differ at most in the timers, the interrupt controller, the control registers and pc. -/
def AlikeBeyondTimers (s t : State) : Prop :=
  t = { s with timers := t.timers, intc := t.intc, ctlRegs := t.ctlRegs, pc := t.pc }

theorem AlikeBeyondTimers.refl (s : State) : AlikeBeyondTimers s s := rfl

theorem AlikeBeyondTimers.trans {s t u : State} (h : AlikeBeyondTimers s t) (h' : AlikeBeyondTimers t u) : AlikeBeyondTimers s u := by
  unfold AlikeBeyondTimers at *
  rw [h'] at *
  rw [h]

theorem State.setTimers_alike (s : State) (t : TimerBlock) : AlikeBeyondTimers s (s.setTimers t) := rfl

theorem State.trigger_alike (s : State) (n : BitVec 5) : AlikeBeyondTimers s (s.trigger n) := by
  unfold AlikeBeyondTimers
  rw [s.trigger_state n]

theorem State.tickChannel_alike (s : State) (k : ChannelId) : AlikeBeyondTimers s (s.tickChannel k) := by
  unfold State.tickChannel
  dsimp only
  split
  · exact (s.setTimers_alike _).trans (State.trigger_alike _ _)
  · exact s.setTimers_alike _

theorem State.runChannel_alike (k : ChannelId) (p fuel : Nat) (s : State) : AlikeBeyondTimers s (State.runChannel k p fuel s) := by
  induction fuel generalizing s with
  | zero => exact .refl s
  | succ n ih =>
    unfold State.runChannel
    dsimp only
    split
    · split
      · exact (s.setTimers_alike _).trans ((State.tickChannel_alike _ k).trans (ih _))
      · exact (s.setTimers_alike _).trans ((State.tickChannel_alike _ k).trans (State.setTimers_alike _ _))
    · exact .refl s

theorem State.feedChannel_alike (s : State) (k : ChannelId) (n : Nat) : AlikeBeyondTimers s (s.feedChannel k n) := by
  unfold State.feedChannel
  dsimp only
  split
  · exact (s.setTimers_alike _).trans (State.runChannel_alike _ _ _ _)
  · exact .refl s

/-- All `tick` can do to the state (R446, R447). -/
theorem State.tick_alike (s : State) (n : Nat) : AlikeBeyondTimers s (s.tick n) :=
  (s.feedChannel_alike _ n).trans ((State.feedChannel_alike _ _ n).trans (State.feedChannel_alike _ _ n))

/-! ## The step, case by case -/

theorem andThen_eq_next {r : Result} {f : State → Result} {t : State} :
    andThen r f = .next t ↔ ∃ u, r = .next u ∧ f u = .next t := by
  cases r <;> simp [andThen]

@[simp] theorem andThen_next (u : State) (f : State → Result) : andThen (.next u) f = f u := rfl

/-- What a step can be: a single step in PAUSED, or in RUNNING the start of a frame, a breakpoint hit, an iteration or the end of a frame; in
the other modes nothing. -/
theorem step_cases {s t : State} (h : step s = .next t) :
    (s.mode = .paused ∧ ∃ u, s.cpuStep = .next u ∧ t = u.chargeSlice)
    ∨ (s.mode = .running ∧ s.cyclesRemaining = none ∧ t = s.beginFrame)
    ∨ (∃ c, s.mode = .running ∧ s.cyclesRemaining = some c ∧ 0 < c ∧ s.pc ∈ s.breakpoints ∧ t = s.hitBreakpoint)
    ∨ (∃ c, s.mode = .running ∧ s.cyclesRemaining = some c ∧ 0 < c ∧ s.pc ∉ s.breakpoints
        ∧ ∃ u, s.cpuStep = .next u ∧ t = (u.chargeFrame c).chargeSlice)
    ∨ (∃ c, s.mode = .running ∧ s.cyclesRemaining = some c ∧ c ≤ 0 ∧ t = s.endFrame)
    ∨ (s.mode ≠ .paused ∧ s.mode ≠ .running ∧ t = s) := by
  unfold step State.engineUnit at h
  split at h
  · next hm =>
    obtain ⟨u, hu, ht⟩ := andThen_eq_next.1 h
    exact .inl ⟨hm, u, hu, by simpa using ht.symm⟩
  · next hm =>
    split at h
    · next hc => exact .inr (.inl ⟨hm, hc, by simpa using h.symm⟩)
    · next c hc =>
      split at h
      · next hpos =>
        unfold State.iteration at h
        split at h
        · next hb => exact .inr (.inr (.inl ⟨c, hm, hc, hpos, hb, by simpa using h.symm⟩))
        · next hb =>
          obtain ⟨u, hu, ht⟩ := andThen_eq_next.1 h
          exact .inr (.inr (.inr (.inl ⟨c, hm, hc, hpos, hb, u, hu, by simpa using ht.symm⟩)))
      · next hneg => exact .inr (.inr (.inr (.inr (.inl ⟨c, hm, hc, not_lt.1 hneg, by simpa using h.symm⟩))))
  all_goals
    next hm => exact .inr (.inr (.inr (.inr (.inr ⟨by simp [hm], by simp [hm], by simpa using h.symm⟩))))

/-- What a CPU step can be: nothing when halted; else the decoded instruction, or cause 32 for a reserved encoding, then counted. -/
theorem cpuStep_cases {s t : State} (h : s.cpuStep = .next t) :
    (s.halted = true ∧ t = s)
    ∨ (s.halted = false ∧ ∃ i u, decodeSlot s.fetch.1 (s.fetch.2.pc.getLsbD 1) s.fetch.2.flags.t = .ok i
        ∧ exec i s.fetch.2 = .next u ∧ t = u.countStep)
    ∨ (s.halted = false ∧ ∃ e, decodeSlot s.fetch.1 (s.fetch.2.pc.getLsbD 1) s.fetch.2.flags.t = .error e
        ∧ t = (s.fetch.2.enter Config.causeInvalid).countStep) := by
  unfold State.cpuStep at h
  split at h
  · next hh => exact .inl ⟨hh, by simpa using h.symm⟩
  · next hh =>
    have hh : s.halted = false := by simpa using hh
    obtain ⟨u, hu, ht⟩ := andThen_eq_next.1 h
    have ht : t = u.countStep := by simpa using ht.symm
    unfold State.execSlot at hu
    split at hu
    · next i hi => exact .inr (.inl ⟨hh, i, u, hi, hu, ht⟩)
    · next e he =>
      have : s.fetch.2.enter Config.causeInvalid = u := by simpa [raise] using hu
      exact .inr (.inr ⟨hh, e, he, this ▸ ht⟩)

end Sys2Proof.Machine
end

