-- ==== Sys2Proof/Laws/Exec.lean ====
section
/-!
SUPPORT. Which meaning each instruction has: one lemma per constructor, so that no proof unfolds the match of `exec`.
-/

namespace Sys2Proof.Machine

@[simp] theorem exec_nop (s : State) : exec (.nop) s = execNop s := rfl
@[simp] theorem exec_trapCc (c : Cond) (s : State) : exec (.trapCc c) s = execTrapCc c s := rfl
@[simp] theorem exec_sdbbp (s : State) : exec (.sdbbp) s = execSdbbp s := rfl
@[simp] theorem exec_brCc (c : Cond) (ra : Reg) (s : State) : exec (.brCc c ra) s = execBrCc c ra s := rfl
@[simp] theorem exec_brCcL (c : Cond) (ra : Reg) (s : State) : exec (.brCcL c ra) s = execBrCcL c ra s := rfl
@[simp] theorem exec_add (rd ra rb : Reg) (cu : Bool) (s : State) : exec (.add rd ra rb cu) s = execAdd rd ra rb cu s := rfl
@[simp] theorem exec_addc (rd ra rb : Reg) (cu : Bool) (s : State) : exec (.addc rd ra rb cu) s = execAddc rd ra rb cu s := rfl
@[simp] theorem exec_sub (rd ra rb : Reg) (cu : Bool) (s : State) : exec (.sub rd ra rb cu) s = execSub rd ra rb cu s := rfl
@[simp] theorem exec_subc (rd ra rb : Reg) (cu : Bool) (s : State) : exec (.subc rd ra rb cu) s = execSubc rd ra rb cu s := rfl
@[simp] theorem exec_cmpCc (c : Cond) (ra rb : Reg) (s : State) : exec (.cmpCc c ra rb) s = execCmpCc c ra rb s := rfl
@[simp] theorem exec_cmpzCc (c : Cond) (ra : Reg) (s : State) : exec (.cmpzCc c ra) s = execCmpzCc c ra s := rfl
@[simp] theorem exec_neg (rd rb : Reg) (cu : Bool) (s : State) : exec (.neg rd rb cu) s = execNeg rd rb cu s := rfl
@[simp] theorem exec_and (rd ra rb : Reg) (cu : Bool) (s : State) : exec (.and rd ra rb cu) s = execAnd rd ra rb cu s := rfl
@[simp] theorem exec_or (rd ra rb : Reg) (cu : Bool) (s : State) : exec (.or rd ra rb cu) s = execOr rd ra rb cu s := rfl
@[simp] theorem exec_not (rd ra : Reg) (cu : Bool) (s : State) : exec (.not rd ra cu) s = execNot rd ra cu s := rfl
@[simp] theorem exec_xor (rd ra rb : Reg) (cu : Bool) (s : State) : exec (.xor rd ra rb cu) s = execXor rd ra rb cu s := rfl
@[simp] theorem exec_bitclr (rd ra : Reg) (bit : BitVec 5) (cu : Bool) (s : State) : exec (.bitclr rd ra bit cu) s = execBitclr rd ra bit cu s := rfl
@[simp] theorem exec_bitset (rd ra : Reg) (bit : BitVec 5) (cu : Bool) (s : State) : exec (.bitset rd ra bit cu) s = execBitset rd ra bit cu s := rfl
@[simp] theorem exec_bittst (ra : Reg) (bit : BitVec 5) (s : State) : exec (.bittst ra bit) s = execBittst ra bit s := rfl
@[simp] theorem exec_bittgl (rd ra : Reg) (bit : BitVec 5) (cu : Bool) (s : State) : exec (.bittgl rd ra bit cu) s = execBittgl rd ra bit cu s := rfl
@[simp] theorem exec_sll (rd ra rb : Reg) (cu : Bool) (s : State) : exec (.sll rd ra rb cu) s = execSll rd ra rb cu s := rfl
@[simp] theorem exec_srl (rd ra rb : Reg) (cu : Bool) (s : State) : exec (.srl rd ra rb cu) s = execSrl rd ra rb cu s := rfl
@[simp] theorem exec_sra (rd ra rb : Reg) (cu : Bool) (s : State) : exec (.sra rd ra rb cu) s = execSra rd ra rb cu s := rfl
@[simp] theorem exec_ror (rd ra rb : Reg) (cu : Bool) (s : State) : exec (.ror rd ra rb cu) s = execRor rd ra rb cu s := rfl
@[simp] theorem exec_rorc (rd ra rb : Reg) (cu : Bool) (s : State) : exec (.rorc rd ra rb cu) s = execRorc rd ra rb cu s := rfl
@[simp] theorem exec_rol (rd ra rb : Reg) (cu : Bool) (s : State) : exec (.rol rd ra rb cu) s = execRol rd ra rb cu s := rfl
@[simp] theorem exec_rolc (rd ra rb : Reg) (cu : Bool) (s : State) : exec (.rolc rd ra rb cu) s = execRolc rd ra rb cu s := rfl
@[simp] theorem exec_mul (ra rb : Reg) (s : State) : exec (.mul ra rb) s = execMul ra rb s := rfl
@[simp] theorem exec_mulu (ra rb : Reg) (s : State) : exec (.mulu ra rb) s = execMulu ra rb s := rfl
@[simp] theorem exec_div (ra rb : Reg) (s : State) : exec (.div ra rb) s = execDiv ra rb s := rfl
@[simp] theorem exec_divu (ra rb : Reg) (s : State) : exec (.divu ra rb) s = execDivu ra rb s := rfl
@[simp] theorem exec_mfce (rd : Reg) (sel : BitVec 2) (s : State) : exec (.mfce rd sel) s = execMfce rd sel s := rfl
@[simp] theorem exec_mtce (rd : Reg) (sel : BitVec 2) (s : State) : exec (.mtce rd sel) s = execMtce rd sel s := rfl
@[simp] theorem exec_mfsr (rd : Reg) (sb : Reg) (s : State) : exec (.mfsr rd sb) s = execMfsr rd sb s := rfl
@[simp] theorem exec_mtsr (sb : Reg) (ra : Reg) (s : State) : exec (.mtsr sb ra) s = execMtsr sb ra s := rfl
@[simp] theorem exec_tCc (c : Cond) (s : State) : exec (.tCc c) s = execTCc c s := rfl
@[simp] theorem exec_mvCc (c : Cond) (rd ra : Reg) (s : State) : exec (.mvCc c rd ra) s = execMvCc c rd ra s := rfl
@[simp] theorem exec_extsb (rd ra : Reg) (cu : Bool) (s : State) : exec (.extsb rd ra cu) s = execExtsb rd ra cu s := rfl
@[simp] theorem exec_extsh (rd ra : Reg) (cu : Bool) (s : State) : exec (.extsh rd ra cu) s = execExtsh rd ra cu s := rfl
@[simp] theorem exec_extzb (rd ra : Reg) (cu : Bool) (s : State) : exec (.extzb rd ra cu) s = execExtzb rd ra cu s := rfl
@[simp] theorem exec_extzh (rd ra : Reg) (cu : Bool) (s : State) : exec (.extzh rd ra cu) s = execExtzh rd ra cu s := rfl
@[simp] theorem exec_slli (rd ra : Reg) (imm5 : BitVec 5) (cu : Bool) (s : State) : exec (.slli rd ra imm5 cu) s = execSlli rd ra imm5 cu s := rfl
@[simp] theorem exec_srli (rd ra : Reg) (imm5 : BitVec 5) (cu : Bool) (s : State) : exec (.srli rd ra imm5 cu) s = execSrli rd ra imm5 cu s := rfl
@[simp] theorem exec_srai (rd ra : Reg) (imm5 : BitVec 5) (cu : Bool) (s : State) : exec (.srai rd ra imm5 cu) s = execSrai rd ra imm5 cu s := rfl
@[simp] theorem exec_rori (rd ra : Reg) (imm5 : BitVec 5) (cu : Bool) (s : State) : exec (.rori rd ra imm5 cu) s = execRori rd ra imm5 cu s := rfl
@[simp] theorem exec_roric (rd ra : Reg) (imm5 : BitVec 5) (cu : Bool) (s : State) : exec (.roric rd ra imm5 cu) s = execRoric rd ra imm5 cu s := rfl
@[simp] theorem exec_roli (rd ra : Reg) (imm5 : BitVec 5) (cu : Bool) (s : State) : exec (.roli rd ra imm5 cu) s = execRoli rd ra imm5 cu s := rfl
@[simp] theorem exec_rolic (rd ra : Reg) (imm5 : BitVec 5) (cu : Bool) (s : State) : exec (.rolic rd ra imm5 cu) s = execRolic rd ra imm5 cu s := rfl
@[simp] theorem exec_addi (rd : Reg) (imm16 : BitVec 16) (s : State) : exec (.addi rd imm16) s = execAddi rd imm16 s := rfl
@[simp] theorem exec_cmpi (rd : Reg) (imm16 : BitVec 16) (s : State) : exec (.cmpi rd imm16) s = execCmpi rd imm16 s := rfl
@[simp] theorem exec_andi (rd : Reg) (imm16 : BitVec 16) (s : State) : exec (.andi rd imm16) s = execAndi rd imm16 s := rfl
@[simp] theorem exec_ori (rd : Reg) (imm16 : BitVec 16) (s : State) : exec (.ori rd imm16) s = execOri rd imm16 s := rfl
@[simp] theorem exec_ldi (rd : Reg) (imm16 : BitVec 16) (s : State) : exec (.ldi rd imm16) s = execLdi rd imm16 s := rfl
@[simp] theorem exec_addis (rd : Reg) (imm16 : BitVec 16) (s : State) : exec (.addis rd imm16) s = execAddis rd imm16 s := rfl
@[simp] theorem exec_cmpis (rd : Reg) (imm16 : BitVec 16) (s : State) : exec (.cmpis rd imm16) s = execCmpis rd imm16 s := rfl
@[simp] theorem exec_andis (rd : Reg) (imm16 : BitVec 16) (s : State) : exec (.andis rd imm16) s = execAndis rd imm16 s := rfl
@[simp] theorem exec_oris (rd : Reg) (imm16 : BitVec 16) (s : State) : exec (.oris rd imm16) s = execOris rd imm16 s := rfl
@[simp] theorem exec_ldis (rd : Reg) (imm16 : BitVec 16) (s : State) : exec (.ldis rd imm16) s = execLdis rd imm16 s := rfl
@[simp] theorem exec_j (disp24 : BitVec 24) (s : State) : exec (.j disp24) s = execJ disp24 s := rfl
@[simp] theorem exec_jl (disp24 : BitVec 24) (s : State) : exec (.jl disp24) s = execJl disp24 s := rfl
@[simp] theorem exec_bCc (c : Cond) (disp22 : BitVec 22) (s : State) : exec (.bCc c disp22) s = execBCc c disp22 s := rfl
@[simp] theorem exec_bCcL (c : Cond) (disp22 : BitVec 22) (s : State) : exec (.bCcL c disp22) s = execBCcL c disp22 s := rfl
@[simp] theorem exec_mtcr (rd : Reg) (crA : Reg) (s : State) : exec (.mtcr rd crA) s = execMtcr rd crA s := rfl
@[simp] theorem exec_mfcr (rd : Reg) (crA : Reg) (s : State) : exec (.mfcr rd crA) s = execMfcr rd crA s := rfl
@[simp] theorem exec_rte (s : State) : exec (.rte) s = execRte s := rfl
@[simp] theorem exec_addri (rd ra : Reg) (imm14 : BitVec 14) (s : State) : exec (.addri rd ra imm14) s = execAddri rd ra imm14 s := rfl
@[simp] theorem exec_andri (rd ra : Reg) (imm14 : BitVec 14) (s : State) : exec (.andri rd ra imm14) s = execAndri rd ra imm14 s := rfl
@[simp] theorem exec_orri (rd ra : Reg) (imm14 : BitVec 14) (s : State) : exec (.orri rd ra imm14) s = execOrri rd ra imm14 s := rfl
@[simp] theorem exec_lw (rd ra : Reg) (imm15 : BitVec 15) (s : State) : exec (.lw rd ra imm15) s = execLw rd ra imm15 s := rfl
@[simp] theorem exec_lh (rd ra : Reg) (imm15 : BitVec 15) (s : State) : exec (.lh rd ra imm15) s = execLh rd ra imm15 s := rfl
@[simp] theorem exec_lhu (rd ra : Reg) (imm15 : BitVec 15) (s : State) : exec (.lhu rd ra imm15) s = execLhu rd ra imm15 s := rfl
@[simp] theorem exec_lb (rd ra : Reg) (imm15 : BitVec 15) (s : State) : exec (.lb rd ra imm15) s = execLb rd ra imm15 s := rfl
@[simp] theorem exec_sw (rd ra : Reg) (imm15 : BitVec 15) (s : State) : exec (.sw rd ra imm15) s = execSw rd ra imm15 s := rfl
@[simp] theorem exec_sh (rd ra : Reg) (imm15 : BitVec 15) (s : State) : exec (.sh rd ra imm15) s = execSh rd ra imm15 s := rfl
@[simp] theorem exec_lbu (rd ra : Reg) (imm15 : BitVec 15) (s : State) : exec (.lbu rd ra imm15) s = execLbu rd ra imm15 s := rfl
@[simp] theorem exec_sb (rd ra : Reg) (imm15 : BitVec 15) (s : State) : exec (.sb rd ra imm15) s = execSb rd ra imm15 s := rfl
@[simp] theorem exec_lwPre (rd ra : Reg) (imm12 : BitVec 12) (s : State) : exec (.lwPre rd ra imm12) s = execLwPre rd ra imm12 s := rfl
@[simp] theorem exec_lhPre (rd ra : Reg) (imm12 : BitVec 12) (s : State) : exec (.lhPre rd ra imm12) s = execLhPre rd ra imm12 s := rfl
@[simp] theorem exec_lhuPre (rd ra : Reg) (imm12 : BitVec 12) (s : State) : exec (.lhuPre rd ra imm12) s = execLhuPre rd ra imm12 s := rfl
@[simp] theorem exec_lbPre (rd ra : Reg) (imm12 : BitVec 12) (s : State) : exec (.lbPre rd ra imm12) s = execLbPre rd ra imm12 s := rfl
@[simp] theorem exec_swPre (rd ra : Reg) (imm12 : BitVec 12) (s : State) : exec (.swPre rd ra imm12) s = execSwPre rd ra imm12 s := rfl
@[simp] theorem exec_shPre (rd ra : Reg) (imm12 : BitVec 12) (s : State) : exec (.shPre rd ra imm12) s = execShPre rd ra imm12 s := rfl
@[simp] theorem exec_lbuPre (rd ra : Reg) (imm12 : BitVec 12) (s : State) : exec (.lbuPre rd ra imm12) s = execLbuPre rd ra imm12 s := rfl
@[simp] theorem exec_sbPre (rd ra : Reg) (imm12 : BitVec 12) (s : State) : exec (.sbPre rd ra imm12) s = execSbPre rd ra imm12 s := rfl
@[simp] theorem exec_lwRix (rd ra : Reg) (imm12 : BitVec 12) (s : State) : exec (.lwRix rd ra imm12) s = execLwRix rd ra imm12 s := rfl
@[simp] theorem exec_lhRix (rd ra : Reg) (imm12 : BitVec 12) (s : State) : exec (.lhRix rd ra imm12) s = execLhRix rd ra imm12 s := rfl
@[simp] theorem exec_lhuRix (rd ra : Reg) (imm12 : BitVec 12) (s : State) : exec (.lhuRix rd ra imm12) s = execLhuRix rd ra imm12 s := rfl
@[simp] theorem exec_lbRix (rd ra : Reg) (imm12 : BitVec 12) (s : State) : exec (.lbRix rd ra imm12) s = execLbRix rd ra imm12 s := rfl
@[simp] theorem exec_swRix (rd ra : Reg) (imm12 : BitVec 12) (s : State) : exec (.swRix rd ra imm12) s = execSwRix rd ra imm12 s := rfl
@[simp] theorem exec_shRix (rd ra : Reg) (imm12 : BitVec 12) (s : State) : exec (.shRix rd ra imm12) s = execShRix rd ra imm12 s := rfl
@[simp] theorem exec_lbuRix (rd ra : Reg) (imm12 : BitVec 12) (s : State) : exec (.lbuRix rd ra imm12) s = execLbuRix rd ra imm12 s := rfl
@[simp] theorem exec_sbRix (rd ra : Reg) (imm12 : BitVec 12) (s : State) : exec (.sbRix rd ra imm12) s = execSbRix rd ra imm12 s := rfl
@[simp] theorem exec_nop16 (m : SlotMode) (s : State) : exec (.nop16 m) s = execNop16 m s := rfl
@[simp] theorem exec_mlfh16 (m : SlotMode) (rd ra : Reg) (s : State) : exec (.mlfh16 m rd ra) s = execMlfh16 m rd ra s := rfl
@[simp] theorem exec_mhfl16 (m : SlotMode) (rd ra : Reg) (s : State) : exec (.mhfl16 m rd ra) s = execMhfl16 m rd ra s := rfl
@[simp] theorem exec_mv16 (m : SlotMode) (rd ra : Reg) (s : State) : exec (.mv16 m rd ra) s = execMv16 m rd ra s := rfl
@[simp] theorem exec_brCc16 (m : SlotMode) (c : Cond) (ra : Reg) (s : State) : exec (.brCc16 m c ra) s = execBrCc16 m c ra s := rfl
@[simp] theorem exec_tCc16 (m : SlotMode) (c : Cond) (s : State) : exec (.tCc16 m c) s = execTCc16 m c s := rfl
@[simp] theorem exec_brCcL16 (m : SlotMode) (c : Cond) (ra : Reg) (s : State) : exec (.brCcL16 m c ra) s = execBrCcL16 m c ra s := rfl
@[simp] theorem exec_mtce16 (m : SlotMode) (rd : Reg) (sel : CeHalf) (s : State) : exec (.mtce16 m rd sel) s = execMtce16 m rd sel s := rfl
@[simp] theorem exec_mfce16 (m : SlotMode) (rd : Reg) (sel : CeHalf) (s : State) : exec (.mfce16 m rd sel) s = execMfce16 m rd sel s := rfl
@[simp] theorem exec_add16 (m : SlotMode) (rd ra : Reg) (s : State) : exec (.add16 m rd ra) s = execAdd16 m rd ra s := rfl
@[simp] theorem exec_sub16 (m : SlotMode) (rd ra : Reg) (s : State) : exec (.sub16 m rd ra) s = execSub16 m rd ra s := rfl
@[simp] theorem exec_neg16 (m : SlotMode) (rd ra : Reg) (s : State) : exec (.neg16 m rd ra) s = execNeg16 m rd ra s := rfl
@[simp] theorem exec_cmp16 (m : SlotMode) (rd ra : Reg) (s : State) : exec (.cmp16 m rd ra) s = execCmp16 m rd ra s := rfl
@[simp] theorem exec_and16 (m : SlotMode) (rd ra : Reg) (s : State) : exec (.and16 m rd ra) s = execAnd16 m rd ra s := rfl
@[simp] theorem exec_or16 (m : SlotMode) (rd ra : Reg) (s : State) : exec (.or16 m rd ra) s = execOr16 m rd ra s := rfl
@[simp] theorem exec_not16 (m : SlotMode) (rd ra : Reg) (s : State) : exec (.not16 m rd ra) s = execNot16 m rd ra s := rfl
@[simp] theorem exec_xor16 (m : SlotMode) (rd ra : Reg) (s : State) : exec (.xor16 m rd ra) s = execXor16 m rd ra s := rfl
@[simp] theorem exec_lw16 (m : SlotMode) (rd ra : Reg) (s : State) : exec (.lw16 m rd ra) s = execLw16 m rd ra s := rfl
@[simp] theorem exec_lh16 (m : SlotMode) (rd ra : Reg) (s : State) : exec (.lh16 m rd ra) s = execLh16 m rd ra s := rfl
@[simp] theorem exec_pop16 (m : SlotMode) (rd ra : Reg) (s : State) : exec (.pop16 m rd ra) s = execPop16 m rd ra s := rfl
@[simp] theorem exec_lbu16 (m : SlotMode) (rd ra : Reg) (s : State) : exec (.lbu16 m rd ra) s = execLbu16 m rd ra s := rfl
@[simp] theorem exec_sw16 (m : SlotMode) (rd ra : Reg) (s : State) : exec (.sw16 m rd ra) s = execSw16 m rd ra s := rfl
@[simp] theorem exec_sh16 (m : SlotMode) (rd ra : Reg) (s : State) : exec (.sh16 m rd ra) s = execSh16 m rd ra s := rfl
@[simp] theorem exec_push16 (m : SlotMode) (rd ra : Reg) (s : State) : exec (.push16 m rd ra) s = execPush16 m rd ra s := rfl
@[simp] theorem exec_sb16 (m : SlotMode) (rd ra : Reg) (s : State) : exec (.sb16 m rd ra) s = execSb16 m rd ra s := rfl
@[simp] theorem exec_j16 (m : SlotMode) (disp11 : BitVec 11) (s : State) : exec (.j16 m disp11) s = execJ16 m disp11 s := rfl
@[simp] theorem exec_jl16 (m : SlotMode) (disp11 : BitVec 11) (s : State) : exec (.jl16 m disp11) s = execJl16 m disp11 s := rfl
@[simp] theorem exec_bCc16 (m : SlotMode) (c : Cond) (disp8 : BitVec 8) (s : State) : exec (.bCc16 m c disp8) s = execBCc16 m c disp8 s := rfl
@[simp] theorem exec_ldiu16 (m : SlotMode) (rd : Reg) (imm8 : BitVec 8) (s : State) : exec (.ldiu16 m rd imm8) s = execLdiu16 m rd imm8 s := rfl
@[simp] theorem exec_addei16 (m : SlotMode) (rd : Reg) (imm5 : BitVec 5) (s : State) : exec (.addei16 m rd imm5) s = execAddei16 m rd imm5 s := rfl
@[simp] theorem exec_slli16 (m : SlotMode) (rd : Reg) (imm5 : BitVec 5) (s : State) : exec (.slli16 m rd imm5) s = execSlli16 m rd imm5 s := rfl
@[simp] theorem exec_sdbbp16 (m : SlotMode) (s : State) : exec (.sdbbp16 m) s = execSdbbp16 m s := rfl
@[simp] theorem exec_srli16 (m : SlotMode) (rd : Reg) (imm5 : BitVec 5) (s : State) : exec (.srli16 m rd imm5) s = execSrli16 m rd imm5 s := rfl
@[simp] theorem exec_bitclr16 (m : SlotMode) (rd : Reg) (imm5 : BitVec 5) (s : State) : exec (.bitclr16 m rd imm5) s = execBitclr16 m rd imm5 s := rfl
@[simp] theorem exec_bitset16 (m : SlotMode) (rd : Reg) (imm5 : BitVec 5) (s : State) : exec (.bitset16 m rd imm5) s = execBitset16 m rd imm5 s := rfl
@[simp] theorem exec_bittst16 (m : SlotMode) (rd : Reg) (imm5 : BitVec 5) (s : State) : exec (.bittst16 m rd imm5) s = execBittst16 m rd imm5 s := rfl
@[simp] theorem exec_bittgl16 (m : SlotMode) (rd : Reg) (imm5 : BitVec 5) (s : State) : exec (.bittgl16 m rd imm5) s = execBittgl16 m rd imm5 s := rfl
@[simp] theorem exec_lwp16 (m : SlotMode) (rd : Reg) (imm5 : BitVec 5) (s : State) : exec (.lwp16 m rd imm5) s = execLwp16 m rd imm5 s := rfl
@[simp] theorem exec_lhp16 (m : SlotMode) (rd : Reg) (imm5 : BitVec 5) (s : State) : exec (.lhp16 m rd imm5) s = execLhp16 m rd imm5 s := rfl
@[simp] theorem exec_lbup16 (m : SlotMode) (rd : Reg) (imm5 : BitVec 5) (s : State) : exec (.lbup16 m rd imm5) s = execLbup16 m rd imm5 s := rfl
@[simp] theorem exec_swp16 (m : SlotMode) (rd : Reg) (imm5 : BitVec 5) (s : State) : exec (.swp16 m rd imm5) s = execSwp16 m rd imm5 s := rfl
@[simp] theorem exec_shp16 (m : SlotMode) (rd : Reg) (imm5 : BitVec 5) (s : State) : exec (.shp16 m rd imm5) s = execShp16 m rd imm5 s := rfl
@[simp] theorem exec_sbp16 (m : SlotMode) (rd : Reg) (imm5 : BitVec 5) (s : State) : exec (.sbp16 m rd imm5) s = execSbp16 m rd imm5 s := rfl

end Sys2Proof.Machine
end

