-- ==== Sys2Proof/Laws/Ops.lean ====
section
/-!
SUPPORT. For each operation the meanings share, one lemma that says once everything it does: the fields it writes, each other register, and that
nothing else changed.
-/

namespace Sys2Proof.Machine

variable (s : State)

/-! ## Results -/

theorem State.setX_spec (rd : Reg) (r : Word) :
    (s.setX rd r).x rd = r ∧ (∀ j, j ≠ rd → (s.setX rd r).x j = s.x j) ∧ s.setX rd r = { s with regs := (s.setX rd r).regs } :=
  ⟨s.x_setX_same rd r, fun j h => s.x_setX_ne rd j r h, rfl⟩

theorem State.putLogic_spec (rd : Reg) (r : Word) (cu : Bool) :
    let t := s.putLogic rd r cu
    t.x rd = r ∧ (∀ j, j ≠ rd → t.x j = s.x j) ∧ t.flags = (if cu then s.flags.setNZ r else s.flags)
      ∧ t = { s with regs := t.regs, flags := t.flags } :=
  ⟨by simp [State.putLogic], fun j h => by simp [State.putLogic, State.x_setX_ne _ rd j r h], rfl, rfl⟩

theorem State.putArith_spec (rd : Reg) (r : Arith) (cu : Bool) :
    let t := s.putArith rd r cu
    t.x rd = r.value ∧ (∀ j, j ≠ rd → t.x j = s.x j) ∧ t.flags = (if cu then s.flags.setNZCV r else s.flags)
      ∧ t = { s with regs := t.regs, flags := t.flags } :=
  ⟨by simp [State.putArith], fun j h => by simp [State.putArith, State.x_setX_ne _ rd j r.value h], rfl, rfl⟩

theorem State.putCarry_spec (rd : Reg) (r : Word × Bool) (cu : Bool) :
    let t := s.putCarry rd r cu
    t.x rd = r.1 ∧ (∀ j, j ≠ rd → t.x j = s.x j) ∧ t.flags = (if cu then s.flags.setNZC r.1 r.2 else s.flags)
      ∧ t = { s with regs := t.regs, flags := t.flags } :=
  ⟨by simp [State.putCarry], fun j h => by simp [State.putCarry, State.x_setX_ne _ rd j r.1 h], rfl, rfl⟩

theorem State.putProduct_spec (p : Int) :
    (s.putProduct p).ceh ++ (s.putProduct p).cel = BitVec.ofInt 64 p
      ∧ s.putProduct p = { s with cel := (s.putProduct p).cel, ceh := (s.putProduct p).ceh } := by
  refine ⟨?_, rfl⟩
  apply BitVec.eq_of_getLsbD_eq
  intro i hi
  simp only [State.putProduct, State.setCe, BitVec.getLsbD_append, BitVec.getLsbD_extractLsb']
  by_cases h : i < 32
  · simp [h]
  · have h' : i - 32 < 32 := by omega
    have h'' : 32 + (i - 32) = i := by omega
    simp [h, h', h'']

theorem State.putQuotient_spec (q r : Int) :
    s.putQuotient q r = { s with cel := BitVec.ofInt 32 q, ceh := BitVec.ofInt 32 r } := rfl

/-! ## Ends of an instruction -/

theorem done32_spec : done32 s = .next { s with pc := next32 s.pc } := rfl

theorem done16_spec (m : SlotMode) : done16 m s = .next { s with pc := next16 m s.pc } := rfl

theorem raise_spec (c : Cause) : raise c s = .next (s.enter c) := rfl

theorem State.branch_spec (taken link : Bool) (target fall : Word) :
    let t := s.branch taken link target fall
    t.pc = (if taken then target else fall)
      ∧ (∀ j, t.x j = if taken = true ∧ link = true ∧ j = 3#5 then fall else s.x j)
      ∧ t = { s with regs := t.regs, pc := t.pc } := by
  cases taken <;> cases link
  · exact ⟨rfl, fun j => by simp [State.branch], rfl⟩
  · exact ⟨rfl, fun j => by simp [State.branch], rfl⟩
  · exact ⟨rfl, fun j => by simp [State.branch], rfl⟩
  · exact ⟨rfl, fun j => by simp [State.branch, State.link, State.x_setX, Config.linkReg], rfl⟩

/-! ## Loads and stores -/

theorem State.load_spec (rd : Reg) (addr : Word) (sz : Size) (signed : Bool) :
    let t := s.load rd addr sz signed
    t.x rd = extendLoad signed sz (s.memRead addr sz).1 ∧ (∀ j, j ≠ rd → t.x j = s.x j)
      ∧ t = { (s.memRead addr sz).2 with regs := t.regs } :=
  ⟨by simp [State.load], fun j h => by simp [State.load, State.x_setX_ne _ rd j _ h], rfl⟩

theorem State.loadUpdate_spec (rd ra : Reg) (addr base : Word) (sz : Size) (signed : Bool) :
    let t := s.loadUpdate rd ra addr base sz signed
    t.x rd = extendLoad signed sz (s.memRead addr sz).1 ∧ (ra ≠ rd → t.x ra = base)
      ∧ (∀ j, j ≠ rd → j ≠ ra → t.x j = s.x j) ∧ t = { (s.memRead addr sz).2 with regs := t.regs } :=
  ⟨by simp [State.loadUpdate], fun h => by simp [State.loadUpdate, State.x_setX_ne _ rd ra _ h],
    fun j h h' => by simp [State.loadUpdate, State.x_setX_ne _ rd j _ h, State.x_setX_ne _ ra j _ h'], rfl⟩

theorem State.store_spec (rd : Reg) (addr : Word) (sz : Size) : s.store rd addr sz = s.memWrite addr sz (s.x rd) := rfl

theorem State.storeUpdate_spec (rd ra : Reg) (addr : Word) (sz : Size) :
    let t := s.storeUpdate rd ra addr sz
    t.x ra = addr ∧ (∀ j, j ≠ ra → t.x j = s.x j) ∧ t.mem = (s.memWrite addr sz (s.x rd)).mem
      ∧ t = { s.memWrite addr sz (s.x rd) with regs := t.regs } :=
  ⟨by simp [State.storeUpdate], fun j h => by simp [State.storeUpdate, State.x_setX_ne _ ra j _ h], rfl, rfl⟩

end Sys2Proof.Machine
end

