-- ==== Sys2Proof/Laws/PerInstr.lean ====
section
/-!
SUPPORT. Statements for every instruction, one lemma per constructor. RowFields: the instruction's encoding carries the fixed fields of its row
of spec/opcode_table.json, each read at the bits the table gives it.
-/

namespace Sys2Proof.Laws.RowFields

/-- A fixed field of a row: its lowest bit, its width, its value. -/
structure Fixed where
  lo : Nat
  width : Nat
  value : Nat

/-- The fixed fields of the row of spec/opcode_table.json. -/
def fixed : Instr → List Fixed
  | .nop => [⟨1, 6, 0x0⟩, ⟨27, 5, 0x0⟩]
  | .trapCc _ => [⟨1, 6, 0x2⟩, ⟨27, 5, 0x0⟩]
  | .sdbbp => [⟨1, 6, 0x3⟩, ⟨27, 5, 0x0⟩]
  | .brCc _ _ => [⟨0, 7, 0x8⟩, ⟨27, 5, 0x0⟩]
  | .brCcL _ _ => [⟨0, 7, 0x9⟩, ⟨27, 5, 0x0⟩]
  | .add _ _ _ _ => [⟨1, 6, 0x8⟩, ⟨27, 5, 0x0⟩]
  | .addc _ _ _ _ => [⟨1, 6, 0x9⟩, ⟨27, 5, 0x0⟩]
  | .sub _ _ _ _ => [⟨1, 6, 0xa⟩, ⟨27, 5, 0x0⟩]
  | .subc _ _ _ _ => [⟨1, 6, 0xb⟩, ⟨27, 5, 0x0⟩]
  | .cmpCc _ _ _ => [⟨1, 6, 0xc⟩, ⟨27, 5, 0x0⟩]
  | .cmpzCc _ _ => [⟨1, 6, 0xd⟩, ⟨27, 5, 0x0⟩]
  | .neg _ _ _ => [⟨1, 6, 0xf⟩, ⟨27, 5, 0x0⟩]
  | .and _ _ _ _ => [⟨1, 6, 0x10⟩, ⟨27, 5, 0x0⟩]
  | .or _ _ _ _ => [⟨1, 6, 0x11⟩, ⟨27, 5, 0x0⟩]
  | .not _ _ _ => [⟨1, 6, 0x12⟩, ⟨27, 5, 0x0⟩]
  | .xor _ _ _ _ => [⟨1, 6, 0x13⟩, ⟨27, 5, 0x0⟩]
  | .bitclr _ _ _ _ => [⟨1, 6, 0x14⟩, ⟨27, 5, 0x0⟩]
  | .bitset _ _ _ _ => [⟨1, 6, 0x15⟩, ⟨27, 5, 0x0⟩]
  | .bittst _ _ => [⟨1, 6, 0x16⟩, ⟨27, 5, 0x0⟩]
  | .bittgl _ _ _ _ => [⟨1, 6, 0x17⟩, ⟨27, 5, 0x0⟩]
  | .sll _ _ _ _ => [⟨1, 6, 0x18⟩, ⟨27, 5, 0x0⟩]
  | .srl _ _ _ _ => [⟨1, 6, 0x1a⟩, ⟨27, 5, 0x0⟩]
  | .sra _ _ _ _ => [⟨1, 6, 0x1b⟩, ⟨27, 5, 0x0⟩]
  | .ror _ _ _ _ => [⟨1, 6, 0x1c⟩, ⟨27, 5, 0x0⟩]
  | .rorc _ _ _ _ => [⟨1, 6, 0x1d⟩, ⟨27, 5, 0x0⟩]
  | .rol _ _ _ _ => [⟨1, 6, 0x1e⟩, ⟨27, 5, 0x0⟩]
  | .rolc _ _ _ _ => [⟨1, 6, 0x1f⟩, ⟨27, 5, 0x0⟩]
  | .mul _ _ => [⟨1, 6, 0x20⟩, ⟨27, 5, 0x0⟩]
  | .mulu _ _ => [⟨1, 6, 0x21⟩, ⟨27, 5, 0x0⟩]
  | .div _ _ => [⟨1, 6, 0x22⟩, ⟨27, 5, 0x0⟩]
  | .divu _ _ => [⟨1, 6, 0x23⟩, ⟨27, 5, 0x0⟩]
  | .mfce _ _ => [⟨1, 6, 0x24⟩, ⟨27, 5, 0x0⟩]
  | .mtce _ _ => [⟨1, 6, 0x25⟩, ⟨27, 5, 0x0⟩]
  | .mfsr _ _ => [⟨1, 6, 0x28⟩, ⟨27, 5, 0x0⟩]
  | .mtsr _ _ => [⟨1, 6, 0x29⟩, ⟨27, 5, 0x0⟩]
  | .tCc _ => [⟨1, 6, 0x2a⟩, ⟨27, 5, 0x0⟩]
  | .mvCc _ _ _ => [⟨1, 6, 0x2b⟩, ⟨27, 5, 0x0⟩]
  | .extsb _ _ _ => [⟨1, 6, 0x2c⟩, ⟨27, 5, 0x0⟩]
  | .extsh _ _ _ => [⟨1, 6, 0x2d⟩, ⟨27, 5, 0x0⟩]
  | .extzb _ _ _ => [⟨1, 6, 0x2e⟩, ⟨27, 5, 0x0⟩]
  | .extzh _ _ _ => [⟨1, 6, 0x2f⟩, ⟨27, 5, 0x0⟩]
  | .slli _ _ _ _ => [⟨1, 6, 0x38⟩, ⟨27, 5, 0x0⟩]
  | .srli _ _ _ _ => [⟨1, 6, 0x3a⟩, ⟨27, 5, 0x0⟩]
  | .srai _ _ _ _ => [⟨1, 6, 0x3b⟩, ⟨27, 5, 0x0⟩]
  | .rori _ _ _ _ => [⟨1, 6, 0x3c⟩, ⟨27, 5, 0x0⟩]
  | .roric _ _ _ _ => [⟨1, 6, 0x3d⟩, ⟨27, 5, 0x0⟩]
  | .roli _ _ _ _ => [⟨1, 6, 0x3e⟩, ⟨27, 5, 0x0⟩]
  | .rolic _ _ _ _ => [⟨1, 6, 0x3f⟩, ⟨27, 5, 0x0⟩]
  | .addi _ _ => [⟨17, 3, 0x0⟩, ⟨27, 5, 0x1⟩]
  | .cmpi _ _ => [⟨17, 3, 0x2⟩, ⟨27, 5, 0x1⟩]
  | .andi _ _ => [⟨17, 3, 0x4⟩, ⟨27, 5, 0x1⟩]
  | .ori _ _ => [⟨17, 3, 0x5⟩, ⟨27, 5, 0x1⟩]
  | .ldi _ _ => [⟨17, 3, 0x6⟩, ⟨27, 5, 0x1⟩]
  | .addis _ _ => [⟨17, 3, 0x0⟩, ⟨27, 5, 0x5⟩]
  | .cmpis _ _ => [⟨17, 3, 0x2⟩, ⟨27, 5, 0x5⟩]
  | .andis _ _ => [⟨17, 3, 0x4⟩, ⟨27, 5, 0x5⟩]
  | .oris _ _ => [⟨17, 3, 0x5⟩, ⟨27, 5, 0x5⟩]
  | .ldis _ _ => [⟨17, 3, 0x6⟩, ⟨27, 5, 0x5⟩]
  | .j _ => [⟨0, 1, 0x0⟩, ⟨27, 5, 0x2⟩]
  | .jl _ => [⟨0, 1, 0x1⟩, ⟨27, 5, 0x2⟩]
  | .bCc _ _ => [⟨0, 1, 0x0⟩, ⟨27, 5, 0x4⟩]
  | .bCcL _ _ => [⟨0, 1, 0x1⟩, ⟨27, 5, 0x4⟩]
  | .mtcr _ _ => [⟨0, 8, 0x0⟩, ⟨27, 5, 0x6⟩]
  | .mfcr _ _ => [⟨0, 8, 0x1⟩, ⟨27, 5, 0x6⟩]
  | .rte => [⟨0, 8, 0x84⟩, ⟨27, 5, 0x6⟩]
  | .addri _ _ _ => [⟨27, 5, 0x8⟩]
  | .andri _ _ _ => [⟨27, 5, 0xc⟩]
  | .orri _ _ _ => [⟨27, 5, 0xd⟩]
  | .lw _ _ _ => [⟨27, 5, 0x10⟩]
  | .lh _ _ _ => [⟨27, 5, 0x11⟩]
  | .lhu _ _ _ => [⟨27, 5, 0x12⟩]
  | .lb _ _ _ => [⟨27, 5, 0x13⟩]
  | .sw _ _ _ => [⟨27, 5, 0x14⟩]
  | .sh _ _ _ => [⟨27, 5, 0x15⟩]
  | .lbu _ _ _ => [⟨27, 5, 0x16⟩]
  | .sb _ _ _ => [⟨27, 5, 0x17⟩]
  | .lwPre _ _ _ => [⟨0, 3, 0x0⟩, ⟨27, 5, 0x3⟩]
  | .lhPre _ _ _ => [⟨0, 3, 0x1⟩, ⟨27, 5, 0x3⟩]
  | .lhuPre _ _ _ => [⟨0, 3, 0x2⟩, ⟨27, 5, 0x3⟩]
  | .lbPre _ _ _ => [⟨0, 3, 0x3⟩, ⟨27, 5, 0x3⟩]
  | .swPre _ _ _ => [⟨0, 3, 0x4⟩, ⟨27, 5, 0x3⟩]
  | .shPre _ _ _ => [⟨0, 3, 0x5⟩, ⟨27, 5, 0x3⟩]
  | .lbuPre _ _ _ => [⟨0, 3, 0x6⟩, ⟨27, 5, 0x3⟩]
  | .sbPre _ _ _ => [⟨0, 3, 0x7⟩, ⟨27, 5, 0x3⟩]
  | .lwRix _ _ _ => [⟨0, 3, 0x0⟩, ⟨27, 5, 0x7⟩]
  | .lhRix _ _ _ => [⟨0, 3, 0x1⟩, ⟨27, 5, 0x7⟩]
  | .lhuRix _ _ _ => [⟨0, 3, 0x2⟩, ⟨27, 5, 0x7⟩]
  | .lbRix _ _ _ => [⟨0, 3, 0x3⟩, ⟨27, 5, 0x7⟩]
  | .swRix _ _ _ => [⟨0, 3, 0x4⟩, ⟨27, 5, 0x7⟩]
  | .shRix _ _ _ => [⟨0, 3, 0x5⟩, ⟨27, 5, 0x7⟩]
  | .lbuRix _ _ _ => [⟨0, 3, 0x6⟩, ⟨27, 5, 0x7⟩]
  | .sbRix _ _ _ => [⟨0, 3, 0x7⟩, ⟨27, 5, 0x7⟩]
  | .nop16 _ => [⟨0, 4, 0x0⟩, ⟨12, 3, 0x0⟩]
  | .mlfh16 _ _ _ => [⟨0, 4, 0x1⟩, ⟨12, 3, 0x0⟩]
  | .mhfl16 _ _ _ => [⟨0, 4, 0x2⟩, ⟨12, 3, 0x0⟩]
  | .mv16 _ _ _ => [⟨0, 4, 0x3⟩, ⟨12, 3, 0x0⟩]
  | .brCc16 _ _ _ => [⟨0, 4, 0x4⟩, ⟨12, 3, 0x0⟩]
  | .tCc16 _ _ => [⟨0, 4, 0x5⟩, ⟨12, 3, 0x0⟩]
  | .brCcL16 _ _ _ => [⟨0, 4, 0xc⟩, ⟨12, 3, 0x0⟩]
  | .mtce16 _ _ _ => [⟨0, 4, 0x0⟩, ⟨5, 3, 0x0⟩, ⟨12, 3, 0x1⟩]
  | .mfce16 _ _ _ => [⟨0, 4, 0x1⟩, ⟨5, 3, 0x0⟩, ⟨12, 3, 0x1⟩]
  | .add16 _ _ _ => [⟨0, 4, 0x0⟩, ⟨12, 3, 0x2⟩]
  | .sub16 _ _ _ => [⟨0, 4, 0x1⟩, ⟨12, 3, 0x2⟩]
  | .neg16 _ _ _ => [⟨0, 4, 0x2⟩, ⟨12, 3, 0x2⟩]
  | .cmp16 _ _ _ => [⟨0, 4, 0x3⟩, ⟨12, 3, 0x2⟩]
  | .and16 _ _ _ => [⟨0, 4, 0x4⟩, ⟨12, 3, 0x2⟩]
  | .or16 _ _ _ => [⟨0, 4, 0x5⟩, ⟨12, 3, 0x2⟩]
  | .not16 _ _ _ => [⟨0, 4, 0x6⟩, ⟨12, 3, 0x2⟩]
  | .xor16 _ _ _ => [⟨0, 4, 0x7⟩, ⟨12, 3, 0x2⟩]
  | .lw16 _ _ _ => [⟨0, 4, 0x8⟩, ⟨12, 3, 0x2⟩]
  | .lh16 _ _ _ => [⟨0, 4, 0x9⟩, ⟨12, 3, 0x2⟩]
  | .pop16 _ _ _ => [⟨0, 4, 0xa⟩, ⟨12, 3, 0x2⟩]
  | .lbu16 _ _ _ => [⟨0, 4, 0xb⟩, ⟨12, 3, 0x2⟩]
  | .sw16 _ _ _ => [⟨0, 4, 0xc⟩, ⟨12, 3, 0x2⟩]
  | .sh16 _ _ _ => [⟨0, 4, 0xd⟩, ⟨12, 3, 0x2⟩]
  | .push16 _ _ _ => [⟨0, 4, 0xe⟩, ⟨12, 3, 0x2⟩]
  | .sb16 _ _ _ => [⟨0, 4, 0xf⟩, ⟨12, 3, 0x2⟩]
  | .j16 _ _ => [⟨0, 1, 0x0⟩, ⟨12, 3, 0x3⟩]
  | .jl16 _ _ => [⟨0, 1, 0x1⟩, ⟨12, 3, 0x3⟩]
  | .bCc16 _ _ _ => [⟨12, 3, 0x4⟩]
  | .ldiu16 _ _ _ => [⟨12, 3, 0x5⟩]
  | .addei16 _ _ _ => [⟨0, 3, 0x0⟩, ⟨12, 3, 0x6⟩]
  | .slli16 _ _ _ => [⟨0, 3, 0x1⟩, ⟨12, 3, 0x6⟩]
  | .sdbbp16 _ => [⟨0, 3, 0x2⟩, ⟨12, 3, 0x6⟩]
  | .srli16 _ _ _ => [⟨0, 3, 0x3⟩, ⟨12, 3, 0x6⟩]
  | .bitclr16 _ _ _ => [⟨0, 3, 0x4⟩, ⟨12, 3, 0x6⟩]
  | .bitset16 _ _ _ => [⟨0, 3, 0x5⟩, ⟨12, 3, 0x6⟩]
  | .bittst16 _ _ _ => [⟨0, 3, 0x6⟩, ⟨12, 3, 0x6⟩]
  | .bittgl16 _ _ _ => [⟨0, 3, 0x7⟩, ⟨12, 3, 0x6⟩]
  | .lwp16 _ _ _ => [⟨0, 3, 0x0⟩, ⟨12, 3, 0x7⟩]
  | .lhp16 _ _ _ => [⟨0, 3, 0x1⟩, ⟨12, 3, 0x7⟩]
  | .lbup16 _ _ _ => [⟨0, 3, 0x3⟩, ⟨12, 3, 0x7⟩]
  | .swp16 _ _ _ => [⟨0, 3, 0x4⟩, ⟨12, 3, 0x7⟩]
  | .shp16 _ _ _ => [⟨0, 3, 0x5⟩, ⟨12, 3, 0x7⟩]
  | .sbp16 _ _ _ => [⟨0, 3, 0x7⟩, ⟨12, 3, 0x7⟩]

/-- Every fixed field of the row is in the instruction's encoding. -/
def Statement (i : Instr) : Prop := ∀ f ∈ fixed i, (encode i).extractLsb' f.lo f.width = BitVec.ofNat f.width f.value

theorem intro1 {i : Instr} {a : Fixed} (e : fixed i = [a]) (ha : (encode i).extractLsb' a.lo a.width = BitVec.ofNat a.width a.value) :
    Statement i := by
  intro f hf
  rw [e] at hf
  obtain rfl := List.mem_singleton.1 hf
  exact ha

theorem intro2 {i : Instr} {a b : Fixed} (e : fixed i = [a, b])
    (ha : (encode i).extractLsb' a.lo a.width = BitVec.ofNat a.width a.value)
    (hb : (encode i).extractLsb' b.lo b.width = BitVec.ofNat b.width b.value) : Statement i := by
  intro f hf
  rw [e] at hf
  rcases List.mem_cons.1 hf with rfl | hf
  · exact ha
  · obtain rfl := List.mem_singleton.1 hf
    exact hb

theorem intro3 {i : Instr} {a b c : Fixed} (e : fixed i = [a, b, c])
    (ha : (encode i).extractLsb' a.lo a.width = BitVec.ofNat a.width a.value)
    (hb : (encode i).extractLsb' b.lo b.width = BitVec.ofNat b.width b.value)
    (hc : (encode i).extractLsb' c.lo c.width = BitVec.ofNat c.width c.value) : Statement i := by
  intro f hf
  rw [e] at hf
  rcases List.mem_cons.1 hf with rfl | hf
  · exact ha
  · rcases List.mem_cons.1 hf with rfl | hf
    · exact hb
    · obtain rfl := List.mem_singleton.1 hf
      exact hc

theorem nop : Statement (.nop) :=
  intro2 rfl (spForm_field_1 _ _ _ _ _) (spForm_field_27 _ _ _ _ _)

theorem trapCc (c : Cond) : Statement (.trapCc c) :=
  intro2 rfl (spForm_field_1 _ _ _ _ _) (spForm_field_27 _ _ _ _ _)

theorem sdbbp : Statement (.sdbbp) :=
  intro2 rfl (spForm_field_1 _ _ _ _ _) (spForm_field_27 _ _ _ _ _)

theorem brCc (c : Cond) (ra : Reg) : Statement (.brCc c ra) :=
  intro2 rfl (spForm_field_0 _ _ _ _ _) (spForm_field_27 _ _ _ _ _)

theorem brCcL (c : Cond) (ra : Reg) : Statement (.brCcL c ra) :=
  intro2 rfl (spForm_field_0 _ _ _ _ _) (spForm_field_27 _ _ _ _ _)

theorem add (rd ra rb : Reg) (cu : Bool) : Statement (.add rd ra rb cu) :=
  intro2 rfl (spForm_field_1 _ _ _ _ _) (spForm_field_27 _ _ _ _ _)

theorem addc (rd ra rb : Reg) (cu : Bool) : Statement (.addc rd ra rb cu) :=
  intro2 rfl (spForm_field_1 _ _ _ _ _) (spForm_field_27 _ _ _ _ _)

theorem sub (rd ra rb : Reg) (cu : Bool) : Statement (.sub rd ra rb cu) :=
  intro2 rfl (spForm_field_1 _ _ _ _ _) (spForm_field_27 _ _ _ _ _)

theorem subc (rd ra rb : Reg) (cu : Bool) : Statement (.subc rd ra rb cu) :=
  intro2 rfl (spForm_field_1 _ _ _ _ _) (spForm_field_27 _ _ _ _ _)

theorem cmpCc (c : Cond) (ra rb : Reg) : Statement (.cmpCc c ra rb) :=
  intro2 rfl (spForm_field_1 _ _ _ _ _) (spForm_field_27 _ _ _ _ _)

theorem cmpzCc (c : Cond) (ra : Reg) : Statement (.cmpzCc c ra) :=
  intro2 rfl (spForm_field_1 _ _ _ _ _) (spForm_field_27 _ _ _ _ _)

theorem neg (rd rb : Reg) (cu : Bool) : Statement (.neg rd rb cu) :=
  intro2 rfl (spForm_field_1 _ _ _ _ _) (spForm_field_27 _ _ _ _ _)

theorem and (rd ra rb : Reg) (cu : Bool) : Statement (.and rd ra rb cu) :=
  intro2 rfl (spForm_field_1 _ _ _ _ _) (spForm_field_27 _ _ _ _ _)

theorem or (rd ra rb : Reg) (cu : Bool) : Statement (.or rd ra rb cu) :=
  intro2 rfl (spForm_field_1 _ _ _ _ _) (spForm_field_27 _ _ _ _ _)

theorem not (rd ra : Reg) (cu : Bool) : Statement (.not rd ra cu) :=
  intro2 rfl (spForm_field_1 _ _ _ _ _) (spForm_field_27 _ _ _ _ _)

theorem xor (rd ra rb : Reg) (cu : Bool) : Statement (.xor rd ra rb cu) :=
  intro2 rfl (spForm_field_1 _ _ _ _ _) (spForm_field_27 _ _ _ _ _)

theorem bitclr (rd ra : Reg) (bit : BitVec 5) (cu : Bool) : Statement (.bitclr rd ra bit cu) :=
  intro2 rfl (spForm_field_1 _ _ _ _ _) (spForm_field_27 _ _ _ _ _)

theorem bitset (rd ra : Reg) (bit : BitVec 5) (cu : Bool) : Statement (.bitset rd ra bit cu) :=
  intro2 rfl (spForm_field_1 _ _ _ _ _) (spForm_field_27 _ _ _ _ _)

theorem bittst (ra : Reg) (bit : BitVec 5) : Statement (.bittst ra bit) :=
  intro2 rfl (spForm_field_1 _ _ _ _ _) (spForm_field_27 _ _ _ _ _)

theorem bittgl (rd ra : Reg) (bit : BitVec 5) (cu : Bool) : Statement (.bittgl rd ra bit cu) :=
  intro2 rfl (spForm_field_1 _ _ _ _ _) (spForm_field_27 _ _ _ _ _)

theorem sll (rd ra rb : Reg) (cu : Bool) : Statement (.sll rd ra rb cu) :=
  intro2 rfl (spForm_field_1 _ _ _ _ _) (spForm_field_27 _ _ _ _ _)

theorem srl (rd ra rb : Reg) (cu : Bool) : Statement (.srl rd ra rb cu) :=
  intro2 rfl (spForm_field_1 _ _ _ _ _) (spForm_field_27 _ _ _ _ _)

theorem sra (rd ra rb : Reg) (cu : Bool) : Statement (.sra rd ra rb cu) :=
  intro2 rfl (spForm_field_1 _ _ _ _ _) (spForm_field_27 _ _ _ _ _)

theorem ror (rd ra rb : Reg) (cu : Bool) : Statement (.ror rd ra rb cu) :=
  intro2 rfl (spForm_field_1 _ _ _ _ _) (spForm_field_27 _ _ _ _ _)

theorem rorc (rd ra rb : Reg) (cu : Bool) : Statement (.rorc rd ra rb cu) :=
  intro2 rfl (spForm_field_1 _ _ _ _ _) (spForm_field_27 _ _ _ _ _)

theorem rol (rd ra rb : Reg) (cu : Bool) : Statement (.rol rd ra rb cu) :=
  intro2 rfl (spForm_field_1 _ _ _ _ _) (spForm_field_27 _ _ _ _ _)

theorem rolc (rd ra rb : Reg) (cu : Bool) : Statement (.rolc rd ra rb cu) :=
  intro2 rfl (spForm_field_1 _ _ _ _ _) (spForm_field_27 _ _ _ _ _)

theorem mul (ra rb : Reg) : Statement (.mul ra rb) :=
  intro2 rfl (spForm_field_1 _ _ _ _ _) (spForm_field_27 _ _ _ _ _)

theorem mulu (ra rb : Reg) : Statement (.mulu ra rb) :=
  intro2 rfl (spForm_field_1 _ _ _ _ _) (spForm_field_27 _ _ _ _ _)

theorem div (ra rb : Reg) : Statement (.div ra rb) :=
  intro2 rfl (spForm_field_1 _ _ _ _ _) (spForm_field_27 _ _ _ _ _)

theorem divu (ra rb : Reg) : Statement (.divu ra rb) :=
  intro2 rfl (spForm_field_1 _ _ _ _ _) (spForm_field_27 _ _ _ _ _)

theorem mfce (rd : Reg) (sel : BitVec 2) : Statement (.mfce rd sel) :=
  intro2 rfl (spForm_field_1 _ _ _ _ _) (spForm_field_27 _ _ _ _ _)

theorem mtce (rd : Reg) (sel : BitVec 2) : Statement (.mtce rd sel) :=
  intro2 rfl (spForm_field_1 _ _ _ _ _) (spForm_field_27 _ _ _ _ _)

theorem mfsr (rd : Reg) (sb : Reg) : Statement (.mfsr rd sb) :=
  intro2 rfl (spForm_field_1 _ _ _ _ _) (spForm_field_27 _ _ _ _ _)

theorem mtsr (sb : Reg) (ra : Reg) : Statement (.mtsr sb ra) :=
  intro2 rfl (spForm_field_1 _ _ _ _ _) (spForm_field_27 _ _ _ _ _)

theorem tCc (c : Cond) : Statement (.tCc c) :=
  intro2 rfl (spForm_field_1 _ _ _ _ _) (spForm_field_27 _ _ _ _ _)

theorem mvCc (c : Cond) (rd ra : Reg) : Statement (.mvCc c rd ra) :=
  intro2 rfl (spForm_field_1 _ _ _ _ _) (spForm_field_27 _ _ _ _ _)

theorem extsb (rd ra : Reg) (cu : Bool) : Statement (.extsb rd ra cu) :=
  intro2 rfl (spForm_field_1 _ _ _ _ _) (spForm_field_27 _ _ _ _ _)

theorem extsh (rd ra : Reg) (cu : Bool) : Statement (.extsh rd ra cu) :=
  intro2 rfl (spForm_field_1 _ _ _ _ _) (spForm_field_27 _ _ _ _ _)

theorem extzb (rd ra : Reg) (cu : Bool) : Statement (.extzb rd ra cu) :=
  intro2 rfl (spForm_field_1 _ _ _ _ _) (spForm_field_27 _ _ _ _ _)

theorem extzh (rd ra : Reg) (cu : Bool) : Statement (.extzh rd ra cu) :=
  intro2 rfl (spForm_field_1 _ _ _ _ _) (spForm_field_27 _ _ _ _ _)

theorem slli (rd ra : Reg) (imm5 : BitVec 5) (cu : Bool) : Statement (.slli rd ra imm5 cu) :=
  intro2 rfl (spForm_field_1 _ _ _ _ _) (spForm_field_27 _ _ _ _ _)

theorem srli (rd ra : Reg) (imm5 : BitVec 5) (cu : Bool) : Statement (.srli rd ra imm5 cu) :=
  intro2 rfl (spForm_field_1 _ _ _ _ _) (spForm_field_27 _ _ _ _ _)

theorem srai (rd ra : Reg) (imm5 : BitVec 5) (cu : Bool) : Statement (.srai rd ra imm5 cu) :=
  intro2 rfl (spForm_field_1 _ _ _ _ _) (spForm_field_27 _ _ _ _ _)

theorem rori (rd ra : Reg) (imm5 : BitVec 5) (cu : Bool) : Statement (.rori rd ra imm5 cu) :=
  intro2 rfl (spForm_field_1 _ _ _ _ _) (spForm_field_27 _ _ _ _ _)

theorem roric (rd ra : Reg) (imm5 : BitVec 5) (cu : Bool) : Statement (.roric rd ra imm5 cu) :=
  intro2 rfl (spForm_field_1 _ _ _ _ _) (spForm_field_27 _ _ _ _ _)

theorem roli (rd ra : Reg) (imm5 : BitVec 5) (cu : Bool) : Statement (.roli rd ra imm5 cu) :=
  intro2 rfl (spForm_field_1 _ _ _ _ _) (spForm_field_27 _ _ _ _ _)

theorem rolic (rd ra : Reg) (imm5 : BitVec 5) (cu : Bool) : Statement (.rolic rd ra imm5 cu) :=
  intro2 rfl (spForm_field_1 _ _ _ _ _) (spForm_field_27 _ _ _ _ _)

theorem addi (rd : Reg) (imm16 : BitVec 16) : Statement (.addi rd imm16) :=
  intro2 rfl (immForm_field_17 _ _ _ _) (immForm_field_27 _ _ _ _)

theorem cmpi (rd : Reg) (imm16 : BitVec 16) : Statement (.cmpi rd imm16) :=
  intro2 rfl (immForm_field_17 _ _ _ _) (immForm_field_27 _ _ _ _)

theorem andi (rd : Reg) (imm16 : BitVec 16) : Statement (.andi rd imm16) :=
  intro2 rfl (immForm_field_17 _ _ _ _) (immForm_field_27 _ _ _ _)

theorem ori (rd : Reg) (imm16 : BitVec 16) : Statement (.ori rd imm16) :=
  intro2 rfl (immForm_field_17 _ _ _ _) (immForm_field_27 _ _ _ _)

theorem ldi (rd : Reg) (imm16 : BitVec 16) : Statement (.ldi rd imm16) :=
  intro2 rfl (immForm_field_17 _ _ _ _) (immForm_field_27 _ _ _ _)

theorem addis (rd : Reg) (imm16 : BitVec 16) : Statement (.addis rd imm16) :=
  intro2 rfl (immForm_field_17 _ _ _ _) (immForm_field_27 _ _ _ _)

theorem cmpis (rd : Reg) (imm16 : BitVec 16) : Statement (.cmpis rd imm16) :=
  intro2 rfl (immForm_field_17 _ _ _ _) (immForm_field_27 _ _ _ _)

theorem andis (rd : Reg) (imm16 : BitVec 16) : Statement (.andis rd imm16) :=
  intro2 rfl (immForm_field_17 _ _ _ _) (immForm_field_27 _ _ _ _)

theorem oris (rd : Reg) (imm16 : BitVec 16) : Statement (.oris rd imm16) :=
  intro2 rfl (immForm_field_17 _ _ _ _) (immForm_field_27 _ _ _ _)

theorem ldis (rd : Reg) (imm16 : BitVec 16) : Statement (.ldis rd imm16) :=
  intro2 rfl (immForm_field_17 _ _ _ _) (immForm_field_27 _ _ _ _)

theorem j (disp24 : BitVec 24) : Statement (.j disp24) :=
  intro2 rfl (jForm_field_0 _ _) (jForm_field_27 _ _)

theorem jl (disp24 : BitVec 24) : Statement (.jl disp24) :=
  intro2 rfl (jForm_field_0 _ _) (jForm_field_27 _ _)

theorem bCc (c : Cond) (disp22 : BitVec 22) : Statement (.bCc c disp22) :=
  intro2 rfl (bForm_field_0 _ _ _) (bForm_field_27 _ _ _)

theorem bCcL (c : Cond) (disp22 : BitVec 22) : Statement (.bCcL c disp22) :=
  intro2 rfl (bForm_field_0 _ _ _) (bForm_field_27 _ _ _)

theorem mtcr (rd : Reg) (crA : Reg) : Statement (.mtcr rd crA) :=
  intro2 rfl (crForm_field_0 _ _ _) (crForm_field_27 _ _ _)

theorem mfcr (rd : Reg) (crA : Reg) : Statement (.mfcr rd crA) :=
  intro2 rfl (crForm_field_0 _ _ _) (crForm_field_27 _ _ _)

theorem rte : Statement (.rte) :=
  intro2 rfl (crForm_field_0 _ _ _) (crForm_field_27 _ _ _)

theorem addri (rd ra : Reg) (imm14 : BitVec 14) : Statement (.addri rd ra imm14) :=
  intro1 rfl (riForm_field_27 _ _ _ _)

theorem andri (rd ra : Reg) (imm14 : BitVec 14) : Statement (.andri rd ra imm14) :=
  intro1 rfl (riForm_field_27 _ _ _ _)

theorem orri (rd ra : Reg) (imm14 : BitVec 14) : Statement (.orri rd ra imm14) :=
  intro1 rfl (riForm_field_27 _ _ _ _)

theorem lw (rd ra : Reg) (imm15 : BitVec 15) : Statement (.lw rd ra imm15) :=
  intro1 rfl (memForm_field_27 _ _ _ _)

theorem lh (rd ra : Reg) (imm15 : BitVec 15) : Statement (.lh rd ra imm15) :=
  intro1 rfl (memForm_field_27 _ _ _ _)

theorem lhu (rd ra : Reg) (imm15 : BitVec 15) : Statement (.lhu rd ra imm15) :=
  intro1 rfl (memForm_field_27 _ _ _ _)

theorem lb (rd ra : Reg) (imm15 : BitVec 15) : Statement (.lb rd ra imm15) :=
  intro1 rfl (memForm_field_27 _ _ _ _)

theorem sw (rd ra : Reg) (imm15 : BitVec 15) : Statement (.sw rd ra imm15) :=
  intro1 rfl (memForm_field_27 _ _ _ _)

theorem sh (rd ra : Reg) (imm15 : BitVec 15) : Statement (.sh rd ra imm15) :=
  intro1 rfl (memForm_field_27 _ _ _ _)

theorem lbu (rd ra : Reg) (imm15 : BitVec 15) : Statement (.lbu rd ra imm15) :=
  intro1 rfl (memForm_field_27 _ _ _ _)

theorem sb (rd ra : Reg) (imm15 : BitVec 15) : Statement (.sb rd ra imm15) :=
  intro1 rfl (memForm_field_27 _ _ _ _)

theorem lwPre (rd ra : Reg) (imm12 : BitVec 12) : Statement (.lwPre rd ra imm12) :=
  intro2 rfl (rixForm_field_0 _ _ _ _ _) (rixForm_field_27 _ _ _ _ _)

theorem lhPre (rd ra : Reg) (imm12 : BitVec 12) : Statement (.lhPre rd ra imm12) :=
  intro2 rfl (rixForm_field_0 _ _ _ _ _) (rixForm_field_27 _ _ _ _ _)

theorem lhuPre (rd ra : Reg) (imm12 : BitVec 12) : Statement (.lhuPre rd ra imm12) :=
  intro2 rfl (rixForm_field_0 _ _ _ _ _) (rixForm_field_27 _ _ _ _ _)

theorem lbPre (rd ra : Reg) (imm12 : BitVec 12) : Statement (.lbPre rd ra imm12) :=
  intro2 rfl (rixForm_field_0 _ _ _ _ _) (rixForm_field_27 _ _ _ _ _)

theorem swPre (rd ra : Reg) (imm12 : BitVec 12) : Statement (.swPre rd ra imm12) :=
  intro2 rfl (rixForm_field_0 _ _ _ _ _) (rixForm_field_27 _ _ _ _ _)

theorem shPre (rd ra : Reg) (imm12 : BitVec 12) : Statement (.shPre rd ra imm12) :=
  intro2 rfl (rixForm_field_0 _ _ _ _ _) (rixForm_field_27 _ _ _ _ _)

theorem lbuPre (rd ra : Reg) (imm12 : BitVec 12) : Statement (.lbuPre rd ra imm12) :=
  intro2 rfl (rixForm_field_0 _ _ _ _ _) (rixForm_field_27 _ _ _ _ _)

theorem sbPre (rd ra : Reg) (imm12 : BitVec 12) : Statement (.sbPre rd ra imm12) :=
  intro2 rfl (rixForm_field_0 _ _ _ _ _) (rixForm_field_27 _ _ _ _ _)

theorem lwRix (rd ra : Reg) (imm12 : BitVec 12) : Statement (.lwRix rd ra imm12) :=
  intro2 rfl (rixForm_field_0 _ _ _ _ _) (rixForm_field_27 _ _ _ _ _)

theorem lhRix (rd ra : Reg) (imm12 : BitVec 12) : Statement (.lhRix rd ra imm12) :=
  intro2 rfl (rixForm_field_0 _ _ _ _ _) (rixForm_field_27 _ _ _ _ _)

theorem lhuRix (rd ra : Reg) (imm12 : BitVec 12) : Statement (.lhuRix rd ra imm12) :=
  intro2 rfl (rixForm_field_0 _ _ _ _ _) (rixForm_field_27 _ _ _ _ _)

theorem lbRix (rd ra : Reg) (imm12 : BitVec 12) : Statement (.lbRix rd ra imm12) :=
  intro2 rfl (rixForm_field_0 _ _ _ _ _) (rixForm_field_27 _ _ _ _ _)

theorem swRix (rd ra : Reg) (imm12 : BitVec 12) : Statement (.swRix rd ra imm12) :=
  intro2 rfl (rixForm_field_0 _ _ _ _ _) (rixForm_field_27 _ _ _ _ _)

theorem shRix (rd ra : Reg) (imm12 : BitVec 12) : Statement (.shRix rd ra imm12) :=
  intro2 rfl (rixForm_field_0 _ _ _ _ _) (rixForm_field_27 _ _ _ _ _)

theorem lbuRix (rd ra : Reg) (imm12 : BitVec 12) : Statement (.lbuRix rd ra imm12) :=
  intro2 rfl (rixForm_field_0 _ _ _ _ _) (rixForm_field_27 _ _ _ _ _)

theorem sbRix (rd ra : Reg) (imm12 : BitVec 12) : Statement (.sbRix rd ra imm12) :=
  intro2 rfl (rixForm_field_0 _ _ _ _ _) (rixForm_field_27 _ _ _ _ _)

theorem nop16 (m : SlotMode) : Statement (.nop16 m) :=
  intro2 rfl ((lowSlot_field _ 0 4 (by decide) _).trans (nibbleForm_field_0 _ _ _ _)) ((lowSlot_field _ 12 3 (by decide) _).trans (nibbleForm_field_12 _ _ _ _))

theorem mlfh16 (m : SlotMode) (rd ra : Reg) : Statement (.mlfh16 m rd ra) :=
  intro2 rfl ((lowSlot_field _ 0 4 (by decide) _).trans (nibbleForm_field_0 _ _ _ _)) ((lowSlot_field _ 12 3 (by decide) _).trans (nibbleForm_field_12 _ _ _ _))

theorem mhfl16 (m : SlotMode) (rd ra : Reg) : Statement (.mhfl16 m rd ra) :=
  intro2 rfl ((lowSlot_field _ 0 4 (by decide) _).trans (nibbleForm_field_0 _ _ _ _)) ((lowSlot_field _ 12 3 (by decide) _).trans (nibbleForm_field_12 _ _ _ _))

theorem mv16 (m : SlotMode) (rd ra : Reg) : Statement (.mv16 m rd ra) :=
  intro2 rfl ((lowSlot_field _ 0 4 (by decide) _).trans (nibbleForm_field_0 _ _ _ _)) ((lowSlot_field _ 12 3 (by decide) _).trans (nibbleForm_field_12 _ _ _ _))

theorem brCc16 (m : SlotMode) (c : Cond) (ra : Reg) : Statement (.brCc16 m c ra) :=
  intro2 rfl ((lowSlot_field _ 0 4 (by decide) _).trans (nibbleForm_field_0 _ _ _ _)) ((lowSlot_field _ 12 3 (by decide) _).trans (nibbleForm_field_12 _ _ _ _))

theorem tCc16 (m : SlotMode) (c : Cond) : Statement (.tCc16 m c) :=
  intro2 rfl ((lowSlot_field _ 0 4 (by decide) _).trans (nibbleForm_field_0 _ _ _ _)) ((lowSlot_field _ 12 3 (by decide) _).trans (nibbleForm_field_12 _ _ _ _))

theorem brCcL16 (m : SlotMode) (c : Cond) (ra : Reg) : Statement (.brCcL16 m c ra) :=
  intro2 rfl ((lowSlot_field _ 0 4 (by decide) _).trans (nibbleForm_field_0 _ _ _ _)) ((lowSlot_field _ 12 3 (by decide) _).trans (nibbleForm_field_12 _ _ _ _))

theorem mtce16 (m : SlotMode) (rd : Reg) (sel : CeHalf) : Statement (.mtce16 m rd sel) :=
  by cases sel <;> exact intro3 rfl ((lowSlot_field _ 0 4 (by decide) _).trans (nibbleForm_field_0 _ _ _ _)) ((lowSlot_field _ 5 3 (by decide) _).trans (nibbleForm_field_5 _ _ _ _)) ((lowSlot_field _ 12 3 (by decide) _).trans (nibbleForm_field_12 _ _ _ _))

theorem mfce16 (m : SlotMode) (rd : Reg) (sel : CeHalf) : Statement (.mfce16 m rd sel) :=
  by cases sel <;> exact intro3 rfl ((lowSlot_field _ 0 4 (by decide) _).trans (nibbleForm_field_0 _ _ _ _)) ((lowSlot_field _ 5 3 (by decide) _).trans (nibbleForm_field_5 _ _ _ _)) ((lowSlot_field _ 12 3 (by decide) _).trans (nibbleForm_field_12 _ _ _ _))

theorem add16 (m : SlotMode) (rd ra : Reg) : Statement (.add16 m rd ra) :=
  intro2 rfl ((lowSlot_field _ 0 4 (by decide) _).trans (nibbleForm_field_0 _ _ _ _)) ((lowSlot_field _ 12 3 (by decide) _).trans (nibbleForm_field_12 _ _ _ _))

theorem sub16 (m : SlotMode) (rd ra : Reg) : Statement (.sub16 m rd ra) :=
  intro2 rfl ((lowSlot_field _ 0 4 (by decide) _).trans (nibbleForm_field_0 _ _ _ _)) ((lowSlot_field _ 12 3 (by decide) _).trans (nibbleForm_field_12 _ _ _ _))

theorem neg16 (m : SlotMode) (rd ra : Reg) : Statement (.neg16 m rd ra) :=
  intro2 rfl ((lowSlot_field _ 0 4 (by decide) _).trans (nibbleForm_field_0 _ _ _ _)) ((lowSlot_field _ 12 3 (by decide) _).trans (nibbleForm_field_12 _ _ _ _))

theorem cmp16 (m : SlotMode) (rd ra : Reg) : Statement (.cmp16 m rd ra) :=
  intro2 rfl ((lowSlot_field _ 0 4 (by decide) _).trans (nibbleForm_field_0 _ _ _ _)) ((lowSlot_field _ 12 3 (by decide) _).trans (nibbleForm_field_12 _ _ _ _))

theorem and16 (m : SlotMode) (rd ra : Reg) : Statement (.and16 m rd ra) :=
  intro2 rfl ((lowSlot_field _ 0 4 (by decide) _).trans (nibbleForm_field_0 _ _ _ _)) ((lowSlot_field _ 12 3 (by decide) _).trans (nibbleForm_field_12 _ _ _ _))

theorem or16 (m : SlotMode) (rd ra : Reg) : Statement (.or16 m rd ra) :=
  intro2 rfl ((lowSlot_field _ 0 4 (by decide) _).trans (nibbleForm_field_0 _ _ _ _)) ((lowSlot_field _ 12 3 (by decide) _).trans (nibbleForm_field_12 _ _ _ _))

theorem not16 (m : SlotMode) (rd ra : Reg) : Statement (.not16 m rd ra) :=
  intro2 rfl ((lowSlot_field _ 0 4 (by decide) _).trans (nibbleForm_field_0 _ _ _ _)) ((lowSlot_field _ 12 3 (by decide) _).trans (nibbleForm_field_12 _ _ _ _))

theorem xor16 (m : SlotMode) (rd ra : Reg) : Statement (.xor16 m rd ra) :=
  intro2 rfl ((lowSlot_field _ 0 4 (by decide) _).trans (nibbleForm_field_0 _ _ _ _)) ((lowSlot_field _ 12 3 (by decide) _).trans (nibbleForm_field_12 _ _ _ _))

theorem lw16 (m : SlotMode) (rd ra : Reg) : Statement (.lw16 m rd ra) :=
  intro2 rfl ((lowSlot_field _ 0 4 (by decide) _).trans (nibbleForm_field_0 _ _ _ _)) ((lowSlot_field _ 12 3 (by decide) _).trans (nibbleForm_field_12 _ _ _ _))

theorem lh16 (m : SlotMode) (rd ra : Reg) : Statement (.lh16 m rd ra) :=
  intro2 rfl ((lowSlot_field _ 0 4 (by decide) _).trans (nibbleForm_field_0 _ _ _ _)) ((lowSlot_field _ 12 3 (by decide) _).trans (nibbleForm_field_12 _ _ _ _))

theorem pop16 (m : SlotMode) (rd ra : Reg) : Statement (.pop16 m rd ra) :=
  intro2 rfl ((lowSlot_field _ 0 4 (by decide) _).trans (stackForm_field_0 _ _ _)) ((lowSlot_field _ 12 3 (by decide) _).trans (stackForm_field_12 _ _ _))

theorem lbu16 (m : SlotMode) (rd ra : Reg) : Statement (.lbu16 m rd ra) :=
  intro2 rfl ((lowSlot_field _ 0 4 (by decide) _).trans (nibbleForm_field_0 _ _ _ _)) ((lowSlot_field _ 12 3 (by decide) _).trans (nibbleForm_field_12 _ _ _ _))

theorem sw16 (m : SlotMode) (rd ra : Reg) : Statement (.sw16 m rd ra) :=
  intro2 rfl ((lowSlot_field _ 0 4 (by decide) _).trans (nibbleForm_field_0 _ _ _ _)) ((lowSlot_field _ 12 3 (by decide) _).trans (nibbleForm_field_12 _ _ _ _))

theorem sh16 (m : SlotMode) (rd ra : Reg) : Statement (.sh16 m rd ra) :=
  intro2 rfl ((lowSlot_field _ 0 4 (by decide) _).trans (nibbleForm_field_0 _ _ _ _)) ((lowSlot_field _ 12 3 (by decide) _).trans (nibbleForm_field_12 _ _ _ _))

theorem push16 (m : SlotMode) (rd ra : Reg) : Statement (.push16 m rd ra) :=
  intro2 rfl ((lowSlot_field _ 0 4 (by decide) _).trans (stackForm_field_0 _ _ _)) ((lowSlot_field _ 12 3 (by decide) _).trans (stackForm_field_12 _ _ _))

theorem sb16 (m : SlotMode) (rd ra : Reg) : Statement (.sb16 m rd ra) :=
  intro2 rfl ((lowSlot_field _ 0 4 (by decide) _).trans (nibbleForm_field_0 _ _ _ _)) ((lowSlot_field _ 12 3 (by decide) _).trans (nibbleForm_field_12 _ _ _ _))

theorem j16 (m : SlotMode) (disp11 : BitVec 11) : Statement (.j16 m disp11) :=
  intro2 rfl ((lowSlot_field _ 0 1 (by decide) _).trans (jumpForm_field_0 _ _)) ((lowSlot_field _ 12 3 (by decide) _).trans (jumpForm_field_12 _ _))

theorem jl16 (m : SlotMode) (disp11 : BitVec 11) : Statement (.jl16 m disp11) :=
  intro2 rfl ((lowSlot_field _ 0 1 (by decide) _).trans (jumpForm_field_0 _ _)) ((lowSlot_field _ 12 3 (by decide) _).trans (jumpForm_field_12 _ _))

theorem bCc16 (m : SlotMode) (c : Cond) (disp8 : BitVec 8) : Statement (.bCc16 m c disp8) :=
  intro1 rfl ((lowSlot_field _ 12 3 (by decide) _).trans (byteForm_field_12 _ _ _))

theorem ldiu16 (m : SlotMode) (rd : Reg) (imm8 : BitVec 8) : Statement (.ldiu16 m rd imm8) :=
  intro1 rfl ((lowSlot_field _ 12 3 (by decide) _).trans (byteForm_field_12 _ _ _))

theorem addei16 (m : SlotMode) (rd : Reg) (imm5 : BitVec 5) : Statement (.addei16 m rd imm5) :=
  intro2 rfl ((lowSlot_field _ 0 3 (by decide) _).trans (fiveForm_field_0 _ _ _ _)) ((lowSlot_field _ 12 3 (by decide) _).trans (fiveForm_field_12 _ _ _ _))

theorem slli16 (m : SlotMode) (rd : Reg) (imm5 : BitVec 5) : Statement (.slli16 m rd imm5) :=
  intro2 rfl ((lowSlot_field _ 0 3 (by decide) _).trans (fiveForm_field_0 _ _ _ _)) ((lowSlot_field _ 12 3 (by decide) _).trans (fiveForm_field_12 _ _ _ _))

theorem sdbbp16 (m : SlotMode) : Statement (.sdbbp16 m) :=
  intro2 rfl ((lowSlot_field _ 0 3 (by decide) _).trans (fiveForm_field_0 _ _ _ _)) ((lowSlot_field _ 12 3 (by decide) _).trans (fiveForm_field_12 _ _ _ _))

theorem srli16 (m : SlotMode) (rd : Reg) (imm5 : BitVec 5) : Statement (.srli16 m rd imm5) :=
  intro2 rfl ((lowSlot_field _ 0 3 (by decide) _).trans (fiveForm_field_0 _ _ _ _)) ((lowSlot_field _ 12 3 (by decide) _).trans (fiveForm_field_12 _ _ _ _))

theorem bitclr16 (m : SlotMode) (rd : Reg) (imm5 : BitVec 5) : Statement (.bitclr16 m rd imm5) :=
  intro2 rfl ((lowSlot_field _ 0 3 (by decide) _).trans (fiveForm_field_0 _ _ _ _)) ((lowSlot_field _ 12 3 (by decide) _).trans (fiveForm_field_12 _ _ _ _))

theorem bitset16 (m : SlotMode) (rd : Reg) (imm5 : BitVec 5) : Statement (.bitset16 m rd imm5) :=
  intro2 rfl ((lowSlot_field _ 0 3 (by decide) _).trans (fiveForm_field_0 _ _ _ _)) ((lowSlot_field _ 12 3 (by decide) _).trans (fiveForm_field_12 _ _ _ _))

theorem bittst16 (m : SlotMode) (rd : Reg) (imm5 : BitVec 5) : Statement (.bittst16 m rd imm5) :=
  intro2 rfl ((lowSlot_field _ 0 3 (by decide) _).trans (fiveForm_field_0 _ _ _ _)) ((lowSlot_field _ 12 3 (by decide) _).trans (fiveForm_field_12 _ _ _ _))

theorem bittgl16 (m : SlotMode) (rd : Reg) (imm5 : BitVec 5) : Statement (.bittgl16 m rd imm5) :=
  intro2 rfl ((lowSlot_field _ 0 3 (by decide) _).trans (fiveForm_field_0 _ _ _ _)) ((lowSlot_field _ 12 3 (by decide) _).trans (fiveForm_field_12 _ _ _ _))

theorem lwp16 (m : SlotMode) (rd : Reg) (imm5 : BitVec 5) : Statement (.lwp16 m rd imm5) :=
  intro2 rfl ((lowSlot_field _ 0 3 (by decide) _).trans (fiveForm_field_0 _ _ _ _)) ((lowSlot_field _ 12 3 (by decide) _).trans (fiveForm_field_12 _ _ _ _))

theorem lhp16 (m : SlotMode) (rd : Reg) (imm5 : BitVec 5) : Statement (.lhp16 m rd imm5) :=
  intro2 rfl ((lowSlot_field _ 0 3 (by decide) _).trans (fiveForm_field_0 _ _ _ _)) ((lowSlot_field _ 12 3 (by decide) _).trans (fiveForm_field_12 _ _ _ _))

theorem lbup16 (m : SlotMode) (rd : Reg) (imm5 : BitVec 5) : Statement (.lbup16 m rd imm5) :=
  intro2 rfl ((lowSlot_field _ 0 3 (by decide) _).trans (fiveForm_field_0 _ _ _ _)) ((lowSlot_field _ 12 3 (by decide) _).trans (fiveForm_field_12 _ _ _ _))

theorem swp16 (m : SlotMode) (rd : Reg) (imm5 : BitVec 5) : Statement (.swp16 m rd imm5) :=
  intro2 rfl ((lowSlot_field _ 0 3 (by decide) _).trans (fiveForm_field_0 _ _ _ _)) ((lowSlot_field _ 12 3 (by decide) _).trans (fiveForm_field_12 _ _ _ _))

theorem shp16 (m : SlotMode) (rd : Reg) (imm5 : BitVec 5) : Statement (.shp16 m rd imm5) :=
  intro2 rfl ((lowSlot_field _ 0 3 (by decide) _).trans (fiveForm_field_0 _ _ _ _)) ((lowSlot_field _ 12 3 (by decide) _).trans (fiveForm_field_12 _ _ _ _))

theorem sbp16 (m : SlotMode) (rd : Reg) (imm5 : BitVec 5) : Statement (.sbp16 m rd imm5) :=
  intro2 rfl ((lowSlot_field _ 0 3 (by decide) _).trans (fiveForm_field_0 _ _ _ _)) ((lowSlot_field _ 12 3 (by decide) _).trans (fiveForm_field_12 _ _ _ _))


end Sys2Proof.Laws.RowFields
end

