-- ==== Sys2Proof/Tests/Slice0.lean ====
section
/-!
SUPPORT. Tests. Expected values come from the spec: the words, start states and results of spec/95_test_vectors.md (named by their ids), its device
vectors, and field values read off the encoding rules. The last section shows, for each statement with hypotheses, concrete data that meet them.
-/

namespace Sys2Proof.Tests

open Sys2Proof.Machine

/-! ## Helpers -/

/-- The default start state of spec/95_test_vectors.md section 1: reset, the word 0xB3A29180 at 0xA0000100, and a slot stored where pc fetches. -/
def at_ (pc slot : Word) : State :=
  { State.reset with
    pc := pc
    mem := (Memory.writeLE [] 0xA0000100 0xB3A29180#32 4).writeLE (pc &&& 0xFFFFFFFC#32).toNat slot 4 }

/-- Five flags. -/
def fl (n z c v t : Bool) : Flags := { n := n, z := z, c := c, v := v, t := t }

/-- The state after one step. -/
def after (s : State) : Option State :=
  match step s with
  | .next t => some t
  | .fault _ => none
  | .refused _ => none

/-- The slot decodes to the instruction, entered at pc[1] = pc1 with the flag T. -/
def reads (slot : Word) (pc1 t : Bool) (i : Instr) : Bool :=
  match decodeSlot slot pc1 t with
  | .ok j => j == i
  | .error _ => false

/-- The slot is a reserved encoding. -/
def reserved (slot : Word) (pc1 t : Bool) : Bool :=
  match decodeSlot slot pc1 t with
  | .ok _ => false
  | .error _ => true

/-! ## Decoding: a word of spec/95_test_vectors.md section 4 for every constructor -/

theorem test_decode_nop : reads 0x00000000#32 false false .nop = true := by decide
theorem test_decode_trapCc : reads 0x00003C04#32 false false (.trapCc .al) = true := by decide
theorem test_decode_sdbbp : reads 0x00000006#32 false false .sdbbp = true := by decide
theorem test_decode_brCc : reads 0x0001BC08#32 false false (.brCc .al 3#5) = true := by decide
theorem test_decode_brCcL : reads 0x00023C09#32 false false (.brCcL .al 4#5) = true := by decide
theorem test_decode_add : reads 0x06110C10#32 false false (.add 1#5 2#5 3#5 false) = true := by decide
theorem test_decode_addc : reads 0x00110C13#32 false false (.addc 1#5 2#5 3#5 true) = true := by decide
theorem test_decode_sub : reads 0x00110C15#32 false false (.sub 1#5 2#5 3#5 true) = true := by decide
theorem test_decode_subc : reads 0x00110C17#32 false false (.subc 1#5 2#5 3#5 true) = true := by decide
theorem test_decode_cmpCc : reads 0x00F29819#32 false false (.cmpCc .al 5#5 6#5) = true := by decide
theorem test_decode_cmpzCc : reads 0x0042001B#32 false false (.cmpzCc .eq 4#5) = true := by decide
theorem test_decode_neg : reads 0x00100C1F#32 false false (.neg 1#5 3#5 true) = true := by decide
theorem test_decode_and : reads 0x00110C20#32 false false (.and 1#5 2#5 3#5 false) = true := by decide
theorem test_decode_or : reads 0x00110C22#32 false false (.or 1#5 2#5 3#5 false) = true := by decide
theorem test_decode_not : reads 0x00110025#32 false false (.not 1#5 2#5 true) = true := by decide
theorem test_decode_xor : reads 0x00110C26#32 false false (.xor 1#5 2#5 3#5 false) = true := by decide
theorem test_decode_bitclr : reads 0x00117C28#32 false false (.bitclr 1#5 2#5 31#5 false) = true := by decide
theorem test_decode_bitset : reads 0x0011102A#32 false false (.bitset 1#5 2#5 4#5 false) = true := by decide
theorem test_decode_bittst : reads 0x0001102D#32 false false (.bittst 2#5 4#5) = true := by decide
theorem test_decode_bittgl : reads 0x0011102E#32 false false (.bittgl 1#5 2#5 4#5 false) = true := by decide
theorem test_decode_sll : reads 0x00110C30#32 false false (.sll 1#5 2#5 3#5 false) = true := by decide
theorem test_decode_srl : reads 0x00110C34#32 false false (.srl 1#5 2#5 3#5 false) = true := by decide
theorem test_decode_sra : reads 0x00110C36#32 false false (.sra 1#5 2#5 3#5 false) = true := by decide
theorem test_decode_ror : reads 0x00110C38#32 false false (.ror 1#5 2#5 3#5 false) = true := by decide
theorem test_decode_rorc : reads 0x00110C3B#32 false false (.rorc 1#5 2#5 3#5 true) = true := by decide
theorem test_decode_rol : reads 0x00110C3C#32 false false (.rol 1#5 2#5 3#5 false) = true := by decide
theorem test_decode_rolc : reads 0x00110C3F#32 false false (.rolc 1#5 2#5 3#5 true) = true := by decide
theorem test_decode_mul : reads 0x00010C40#32 false false (.mul 2#5 3#5) = true := by decide
theorem test_decode_mulu : reads 0x00010C42#32 false false (.mulu 2#5 3#5) = true := by decide
theorem test_decode_div : reads 0x00010C44#32 false false (.div 2#5 3#5) = true := by decide
theorem test_decode_divu : reads 0x00010C46#32 false false (.divu 2#5 3#5) = true := by decide
theorem test_decode_mfce : reads 0x01F00C48#32 false false (.mfce 31#5 0x3#2) = true := by decide
theorem test_decode_mtce : reads 0x00400C4A#32 false false (.mtce 4#5 0x3#2) = true := by decide
theorem test_decode_mfsr : reads 0x00100050#32 false false (.mfsr 1#5 0#5) = true := by decide
theorem test_decode_mtsr : reads 0x00010052#32 false false (.mtsr 0#5 2#5) = true := by decide
theorem test_decode_tCc : reads 0x00001054#32 false false (.tCc .eq) = true := by decide
theorem test_decode_mvCc : reads 0x00113C56#32 false false (.mvCc .al 1#5 2#5) = true := by decide
theorem test_decode_extsb : reads 0x00110058#32 false false (.extsb 1#5 2#5 false) = true := by decide
theorem test_decode_extsh : reads 0x0011005A#32 false false (.extsh 1#5 2#5 false) = true := by decide
theorem test_decode_extzb : reads 0x0011005C#32 false false (.extzb 1#5 2#5 false) = true := by decide
theorem test_decode_extzh : reads 0x0011005E#32 false false (.extzh 1#5 2#5 false) = true := by decide
theorem test_decode_slli : reads 0x00114070#32 false false (.slli 1#5 2#5 0x10#5 false) = true := by decide
theorem test_decode_srli : reads 0x00117C74#32 false false (.srli 1#5 2#5 0x1F#5 false) = true := by decide
theorem test_decode_srai : reads 0x00117C76#32 false false (.srai 1#5 2#5 0x1F#5 false) = true := by decide
theorem test_decode_rori : reads 0x00112078#32 false false (.rori 1#5 2#5 0x8#5 false) = true := by decide
theorem test_decode_roric : reads 0x0011087B#32 false false (.roric 1#5 2#5 0x2#5 true) = true := by decide
theorem test_decode_roli : reads 0x0011207C#32 false false (.roli 1#5 2#5 0x8#5 false) = true := by decide
theorem test_decode_rolic : reads 0x0011087F#32 false false (.rolic 1#5 2#5 0x2#5 true) = true := by decide
theorem test_decode_addi : reads 0x0B000042#32 false false (.addi 16#5 0x21#16) = true := by decide
theorem test_decode_cmpi : reads 0x08440014#32 false false (.cmpi 4#5 0xA#16) = true := by decide
theorem test_decode_andi : reads 0x084801FE#32 false false (.andi 4#5 0xFF#16) = true := by decide
theorem test_decode_ori : reads 0x084A0068#32 false false (.ori 4#5 0x34#16) = true := by decide
theorem test_decode_ldi : reads 0x096C0042#32 false false (.ldi 22#5 0x21#16) = true := by decide
theorem test_decode_addis : reads 0x28400002#32 false false (.addis 4#5 0x1#16) = true := by decide
theorem test_decode_cmpis : reads 0x28440002#32 false false (.cmpis 4#5 0x1#16) = true := by decide
theorem test_decode_andis : reads 0x284801FE#32 false false (.andis 4#5 0xFF#16) = true := by decide
theorem test_decode_oris : reads 0x284A2468#32 false false (.oris 4#5 0x1234#16) = true := by decide
theorem test_decode_ldis : reads 0x284D4000#32 false false (.ldis 4#5 0xA000#16) = true := by decide
theorem test_decode_j : reads 0x10000200#32 false false (.j 0x100#24) = true := by decide
theorem test_decode_jl : reads 0x10000201#32 false false (.jl 0x100#24) = true := by decide
theorem test_decode_bCc : reads 0x20001010#32 false false (.bCc .eq 0x8#22) = true := by decide
theorem test_decode_bCcL : reads 0x20003C41#32 false false (.bCcL .al 0x20#22) = true := by decide
theorem test_decode_mtcr : reads 0x30118000#32 false false (.mtcr 1#5 3#5) = true := by decide
theorem test_decode_mfcr : reads 0x30110001#32 false false (.mfcr 1#5 2#5) = true := by decide
theorem test_decode_rte : reads 0x30000084#32 false false .rte = true := by decide
theorem test_decode_addri : reads 0x40117FF8#32 false false (.addri 1#5 2#5 0x3FFC#14) = true := by decide
theorem test_decode_andri : reads 0x6011001E#32 false false (.andri 1#5 2#5 0xF#14) = true := by decide
theorem test_decode_orri : reads 0x6811001E#32 false false (.orri 1#5 2#5 0xF#14) = true := by decide
theorem test_decode_lw : reads 0x80110000#32 false false (.lw 1#5 2#5 0x0#15) = true := by decide
theorem test_decode_lh : reads 0x88110002#32 false false (.lh 1#5 2#5 0x2#15) = true := by decide
theorem test_decode_lhu : reads 0x90110002#32 false false (.lhu 1#5 2#5 0x2#15) = true := by decide
theorem test_decode_lb : reads 0x98110001#32 false false (.lb 1#5 2#5 0x1#15) = true := by decide
theorem test_decode_sw : reads 0xA0110004#32 false false (.sw 1#5 2#5 0x4#15) = true := by decide
theorem test_decode_sh : reads 0xA8110002#32 false false (.sh 1#5 2#5 0x2#15) = true := by decide
theorem test_decode_lbu : reads 0xB0110001#32 false false (.lbu 1#5 2#5 0x1#15) = true := by decide
theorem test_decode_sb : reads 0xB8110003#32 false false (.sb 1#5 2#5 0x3#15) = true := by decide
theorem test_decode_lwPre : reads 0x18110020#32 false false (.lwPre 1#5 2#5 0x4#12) = true := by decide
theorem test_decode_lhPre : reads 0x18110011#32 false false (.lhPre 1#5 2#5 0x2#12) = true := by decide
theorem test_decode_lhuPre : reads 0x18110012#32 false false (.lhuPre 1#5 2#5 0x2#12) = true := by decide
theorem test_decode_lbPre : reads 0x1811000B#32 false false (.lbPre 1#5 2#5 0x1#12) = true := by decide
theorem test_decode_swPre : reads 0x184EFFE4#32 false false (.swPre 4#5 29#5 0xFFC#12) = true := by decide
theorem test_decode_shPre : reads 0x18110015#32 false false (.shPre 1#5 2#5 0x2#12) = true := by decide
theorem test_decode_lbuPre : reads 0x1811000E#32 false false (.lbuPre 1#5 2#5 0x1#12) = true := by decide
theorem test_decode_sbPre : reads 0x1811000F#32 false false (.sbPre 1#5 2#5 0x1#12) = true := by decide
theorem test_decode_lwRix : reads 0x38110020#32 false false (.lwRix 1#5 2#5 0x4#12) = true := by decide
theorem test_decode_lhRix : reads 0x38110011#32 false false (.lhRix 1#5 2#5 0x2#12) = true := by decide
theorem test_decode_lhuRix : reads 0x38110012#32 false false (.lhuRix 1#5 2#5 0x2#12) = true := by decide
theorem test_decode_lbRix : reads 0x3811000B#32 false false (.lbRix 1#5 2#5 0x1#12) = true := by decide
theorem test_decode_swRix : reads 0x38110024#32 false false (.swRix 1#5 2#5 0x4#12) = true := by decide
theorem test_decode_shRix : reads 0x38110015#32 false false (.shRix 1#5 2#5 0x2#12) = true := by decide
theorem test_decode_lbuRix : reads 0x3811000E#32 false false (.lbuRix 1#5 2#5 0x1#12) = true := by decide
theorem test_decode_sbRix : reads 0x3811000F#32 false false (.sbRix 1#5 2#5 0x1#12) = true := by decide
theorem test_decode_nop16 : reads 0xE0010000#32 false false (.nop16 .single) = true := by decide
theorem test_decode_mlfh16 : reads 0xE0010141#32 false false (.mlfh16 .single 1#5 20#5) = true := by decide
theorem test_decode_mhfl16 : reads 0xE0010D22#32 false false (.mhfl16 .single 29#5 2#5) = true := by decide
theorem test_decode_mv16 : reads 0xE0010123#32 false false (.mv16 .single 1#5 2#5) = true := by decide
theorem test_decode_brCc16 : reads 0xE0010F34#32 false false (.brCc16 .single .al 3#5) = true := by decide
theorem test_decode_tCc16 : reads 0xE0010405#32 false false (.tCc16 .single .eq) = true := by decide
theorem test_decode_brCcL16 : reads 0xE0010F4C#32 false false (.brCcL16 .single .al 4#5) = true := by decide
theorem test_decode_mtce16 : reads 0xE0011210#32 false false (.mtce16 .single 2#5 .ceh) = true := by decide
theorem test_decode_mfce16 : reads 0xE0011101#32 false false (.mfce16 .single 1#5 .cel) = true := by decide
theorem test_decode_add16 : reads 0xE0012120#32 false false (.add16 .single 1#5 2#5) = true := by decide
theorem test_decode_sub16 : reads 0xE0012121#32 false false (.sub16 .single 1#5 2#5) = true := by decide
theorem test_decode_neg16 : reads 0xE0012122#32 false false (.neg16 .single 1#5 2#5) = true := by decide
theorem test_decode_cmp16 : reads 0xE0012123#32 false false (.cmp16 .single 1#5 2#5) = true := by decide
theorem test_decode_and16 : reads 0xE0012124#32 false false (.and16 .single 1#5 2#5) = true := by decide
theorem test_decode_or16 : reads 0xE0012125#32 false false (.or16 .single 1#5 2#5) = true := by decide
theorem test_decode_not16 : reads 0xE0012126#32 false false (.not16 .single 1#5 2#5) = true := by decide
theorem test_decode_xor16 : reads 0xE0012127#32 false false (.xor16 .single 1#5 2#5) = true := by decide
theorem test_decode_lw16 : reads 0xE0012128#32 false false (.lw16 .single 1#5 2#5) = true := by decide
theorem test_decode_lh16 : reads 0xE0012129#32 false false (.lh16 .single 1#5 2#5) = true := by decide
theorem test_decode_pop16 : reads 0xE00121AA#32 false false (.pop16 .single 17#5 2#5) = true := by decide
theorem test_decode_lbu16 : reads 0xE001212B#32 false false (.lbu16 .single 1#5 2#5) = true := by decide
theorem test_decode_sw16 : reads 0xE001212C#32 false false (.sw16 .single 1#5 2#5) = true := by decide
theorem test_decode_sh16 : reads 0xE001212D#32 false false (.sh16 .single 1#5 2#5) = true := by decide
theorem test_decode_push16 : reads 0xE00121AE#32 false false (.push16 .single 17#5 2#5) = true := by decide
theorem test_decode_sb16 : reads 0xE001212F#32 false false (.sb16 .single 1#5 2#5) = true := by decide
theorem test_decode_j16 : reads 0xE0013200#32 false false (.j16 .single 0x100#11) = true := by decide
theorem test_decode_jl16 : reads 0xE0013201#32 false false (.jl16 .single 0x100#11) = true := by decide
theorem test_decode_bCc16 : reads 0xE0014404#32 false false (.bCc16 .single .eq 0x4#8) = true := by decide
theorem test_decode_ldiu16 : reads 0xE00151AA#32 false false (.ldiu16 .single 1#5 0xAA#8) = true := by decide
theorem test_decode_addei16 : reads 0xE0016110#32 false false (.addei16 .single 1#5 0x2#5) = true := by decide
theorem test_decode_slli16 : reads 0xE0016121#32 false false (.slli16 .single 1#5 0x4#5) = true := by decide
theorem test_decode_sdbbp16 : reads 0xE0020000#32 true false (.sdbbp16 .single) = true := by decide
theorem test_decode_srli16 : reads 0xE0016123#32 false false (.srli16 .single 1#5 0x4#5) = true := by decide
theorem test_decode_bitclr16 : reads 0xE0016104#32 false false (.bitclr16 .single 1#5 0x0#5) = true := by decide
theorem test_decode_bitset16 : reads 0xE00161FD#32 false false (.bitset16 .single 1#5 0x1F#5) = true := by decide
theorem test_decode_bittst16 : reads 0xE0016126#32 false false (.bittst16 .single 1#5 0x4#5) = true := by decide
theorem test_decode_bittgl16 : reads 0xE0016127#32 false false (.bittgl16 .single 1#5 0x4#5) = true := by decide
theorem test_decode_lwp16 : reads 0xE0017108#32 false false (.lwp16 .single 1#5 0x1#5) = true := by decide
theorem test_decode_lhp16 : reads 0xE0017109#32 false false (.lhp16 .single 1#5 0x1#5) = true := by decide
theorem test_decode_lbup16 : reads 0xE001710B#32 false false (.lbup16 .single 1#5 0x1#5) = true := by decide
theorem test_decode_swp16 : reads 0xE001710C#32 false false (.swp16 .single 1#5 0x1#5) = true := by decide
theorem test_decode_shp16 : reads 0xE001710D#32 false false (.shp16 .single 1#5 0x1#5) = true := by decide
theorem test_decode_sbp16 : reads 0xE001710F#32 false false (.sbp16 .single 1#5 0x1#5) = true := by decide

/-! ## One step: the single-step vectors of spec/95_test_vectors.md section 4 -/

theorem test_step_nop_V_R290 :
    (after (at_ 0x9E000000#32 0x0#32)).map (fun t => t.pc)
      = some 0x9E000004#32 := by decide
theorem test_step_trapCc_V_R297 :
    (after ((at_ 0x9E000030#32 0x3C04#32).setCr 3#5 0x9E000400#32)).map (fun t => (t.cr 5#5, ((t.cr 2#5).extractLsb' 18 6).toNat, t.pc))
      = some (0x9E000030#32, 33, 0x9E000484#32) := by decide
theorem test_step_trapCc_V_R297b :
    (after (((at_ 0x9E000030#32 0x1004#32).setCr 3#5 0x9E000400#32).setFlags (fl false false false false false))).map (fun t => t.pc)
      = some 0x9E000034#32 := by decide
theorem test_step_sdbbp_V_R296 :
    (after ((at_ 0x9E000020#32 0x6#32).setCr 3#5 0x9E000400#32)).map (fun t => (t.cr 5#5, ((t.cr 2#5).extractLsb' 18 6).toNat, t.pc))
      = some (0x9E000020#32, 32, 0x9E000480#32) := by decide
theorem test_step_brCc_V_R244 :
    (after ((at_ 0xA0002000#32 0x1BC08#32).setX 3#5 0x9E000104#32)).map (fun t => t.pc)
      = some 0x9E000104#32 := by decide
theorem test_step_brCc_V_R244odd :
    (after ((at_ 0xA0002000#32 0x23C08#32).setX 4#5 0x9E000103#32)).map (fun t => t.pc)
      = some 0x9E000103#32 := by decide
theorem test_step_brCcL_V_R245 :
    (after ((at_ 0x9E000020#32 0x23C09#32).setX 4#5 0xA0001000#32)).map (fun t => (t.pc, t.x 3#5))
      = some (0xA0001000#32, 0x9E000024#32) := by decide
theorem test_step_brCcL_V_R245r3 :
    (after ((at_ 0x9E000020#32 0x1BC09#32).setX 3#5 0xA0001000#32)).map (fun t => (t.pc, t.x 3#5))
      = some (0xA0001000#32, 0x9E000024#32) := by decide
theorem test_step_add_V_R144 :
    (after (((at_ 0xA0002000#32 0x110C11#32).setX 2#5 0x7FFFFFFF#32).setX 3#5 0x1#32)).map (fun t => (t.x 1#5, t.flags.n, t.flags.z, t.flags.c, t.flags.v))
      = some (0x80000000#32, true, false, false, true) := by decide
theorem test_step_add_V_R144nocu :
    (after ((((at_ 0xA0002000#32 0x110C10#32).setX 2#5 0xFFFFFFFF#32).setX 3#5 0x1#32).setFlags (fl true false false true false))).map (fun t => (t.x 1#5, t.flags.n, t.flags.z, t.flags.c, t.flags.v))
      = some (0x0#32, true, false, false, true) := by decide
theorem test_step_addc_V_R145 :
    (after ((((at_ 0xA0002000#32 0x110C13#32).setX 2#5 0xFFFFFFFF#32).setX 3#5 0x0#32).setFlags (fl false false true false false))).map (fun t => (t.x 1#5, t.flags.n, t.flags.z, t.flags.c, t.flags.v))
      = some (0x0#32, false, true, true, false) := by decide
theorem test_step_addc_V_R145c :
    (after ((((at_ 0xA0002000#32 0x110C13#32).setX 2#5 0x0#32).setX 3#5 0x7FFFFFFF#32).setFlags (fl false false true false false))).map (fun t => (t.x 1#5, t.flags.v))
      = some (0x80000000#32, true) := by decide
theorem test_step_sub_V_R146b :
    (after (((at_ 0xA0002000#32 0x110C15#32).setX 2#5 0x80000000#32).setX 3#5 0x1#32)).map (fun t => (t.x 1#5, t.flags.n, t.flags.c, t.flags.v))
      = some (0x7FFFFFFF#32, false, true, true) := by decide
theorem test_step_sub_V_R146p2 :
    (after (((at_ 0xA0002000#32 0x110C15#32).setX 2#5 0xDEADBEEF#32).setX 3#5 0xDEADBEEF#32)).map (fun t => (t.x 1#5, t.flags.z, t.flags.n, t.flags.c, t.flags.v))
      = some (0x0#32, true, false, true, false) := by decide
theorem test_step_subc_V_R147 :
    (after ((((at_ 0xA0002000#32 0x110C17#32).setX 2#5 0x5#32).setX 3#5 0x5#32).setFlags (fl false false false false false))).map (fun t => (t.x 1#5, t.flags.n, t.flags.z, t.flags.c, t.flags.v))
      = some (0xFFFFFFFF#32, true, false, false, false) := by decide
theorem test_step_subc_V_R147b :
    (after ((((at_ 0xA0002000#32 0x110C17#32).setX 2#5 0x0#32).setX 3#5 0xFFFFFFFF#32).setFlags (fl false false false false false))).map (fun t => (t.x 1#5, t.flags.c, t.flags.z))
      = some (0x0#32, false, true) := by decide
theorem test_step_cmpCc_V_R149lt :
    (after (((at_ 0xA0002000#32 0x929818#32).setX 5#5 0xFFFFFFFF#32).setX 6#5 0x1#32)).map (fun t => (t.flags.n, t.flags.z, t.flags.c, t.flags.v, t.flags.t))
      = some (true, false, true, false, true) := by decide
theorem test_step_cmpCc_V_R149ov :
    (after (((at_ 0xA0002000#32 0x929818#32).setX 5#5 0x80000000#32).setX 6#5 0x1#32)).map (fun t => (t.flags.n, t.flags.z, t.flags.c, t.flags.v, t.flags.t))
      = some (false, false, true, true, true) := by decide
theorem test_step_cmpzCc_V_R150 :
    (after ((at_ 0xA0002000#32 0x42001B#32).setX 4#5 0x0#32)).map (fun t => (t.flags.z, t.flags.n, t.flags.c, t.flags.v, t.flags.t))
      = some (true, false, true, false, true) := by decide
theorem test_step_neg_V_R148b :
    (after ((at_ 0xA0002000#32 0x100C1F#32).setX 3#5 0x80000000#32)).map (fun t => (t.x 1#5, t.flags.n, t.flags.v, t.flags.c))
      = some (0x80000000#32, true, true, false) := by decide
theorem test_step_neg_V_R148c :
    (after ((at_ 0xA0002000#32 0x100C1F#32).setX 3#5 0x0#32)).map (fun t => (t.x 1#5, t.flags.z, t.flags.c))
      = some (0x0#32, true, true) := by decide
theorem test_step_and_V_R151 :
    (after (((at_ 0xA0002000#32 0x110C20#32).setX 2#5 0xF0F0F0F0#32).setX 3#5 0xFF00FF0#32)).map (fun t => t.x 1#5)
      = some 0xF000F0#32 := by decide
theorem test_step_or_V_R152 :
    (after (((at_ 0xA0002000#32 0x110C22#32).setX 2#5 0xF0F0F0F0#32).setX 3#5 0xFF00FF0#32)).map (fun t => t.x 1#5)
      = some 0xFFF0FFF0#32 := by decide
theorem test_step_not_V_R153 :
    (after ((at_ 0xA0002000#32 0x110025#32).setX 2#5 0x0#32)).map (fun t => (t.x 1#5, t.flags.n, t.flags.z))
      = some (0xFFFFFFFF#32, true, false) := by decide
theorem test_step_xor_V_R154 :
    (after (((at_ 0xA0002000#32 0x110C26#32).setX 2#5 0xF0F0F0F0#32).setX 3#5 0xFF00FF0#32)).map (fun t => t.x 1#5)
      = some 0xFF00FF00#32 := by decide
theorem test_step_bitclr_V_R155 :
    (after ((at_ 0xA0002000#32 0x117C28#32).setX 2#5 0xFFFFFFFF#32)).map (fun t => t.x 1#5)
      = some 0x7FFFFFFF#32 := by decide
theorem test_step_bitset_V_R156 :
    (after ((at_ 0xA0002000#32 0x11102A#32).setX 2#5 0x0#32)).map (fun t => t.x 1#5)
      = some 0x10#32 := by decide
theorem test_step_bittst_V_R157b :
    (after ((at_ 0xA0002000#32 0x10C2D#32).setX 2#5 0x10#32)).map (fun t => (t.flags.t, t.flags.z))
      = some (false, true) := by decide
theorem test_step_bittst_V_R157nz :
    (after (((at_ 0xA0002000#32 0x1102D#32).setX 2#5 0x10#32).setFlags (fl true false true true false))).map (fun t => (t.flags.t, t.flags.z, t.flags.n, t.flags.c, t.flags.v))
      = some (true, false, true, true, true) := by decide
theorem test_step_bittgl_V_R158 :
    (after ((at_ 0xA0002000#32 0x11102E#32).setX 2#5 0x10#32)).map (fun t => t.x 1#5)
      = some 0x0#32 := by decide
theorem test_step_sll_V_R159c32 :
    (after (((at_ 0xA0002000#32 0x110C30#32).setX 2#5 0x80000001#32).setX 3#5 0x20#32)).map (fun t => t.x 1#5)
      = some 0x80000001#32 := by decide
theorem test_step_sll_V_R159c31 :
    (after (((at_ 0xA0002000#32 0x110C31#32).setX 2#5 0x1#32).setX 3#5 0xFFFFFFFF#32)).map (fun t => (t.x 1#5, t.flags.n, t.flags.z, t.flags.c))
      = some (0x80000000#32, true, false, false) := by decide
theorem test_step_srl_V_R160 :
    (after (((at_ 0xA0002000#32 0x110C34#32).setX 2#5 0x80000001#32).setX 3#5 0x1#32)).map (fun t => t.x 1#5)
      = some 0x40000000#32 := by decide
theorem test_step_sra_V_R161 :
    (after (((at_ 0xA0002000#32 0x110C36#32).setX 2#5 0x80000001#32).setX 3#5 0x1#32)).map (fun t => t.x 1#5)
      = some 0xC0000000#32 := by decide
theorem test_step_sra_V_R161c31 :
    (after (((at_ 0xA0002000#32 0x110C36#32).setX 2#5 0x80000000#32).setX 3#5 0x1F#32)).map (fun t => t.x 1#5)
      = some 0xFFFFFFFF#32 := by decide
theorem test_step_ror_V_R162 :
    (after (((at_ 0xA0002000#32 0x110C38#32).setX 2#5 0x80000001#32).setX 3#5 0x1#32)).map (fun t => t.x 1#5)
      = some 0xC0000000#32 := by decide
theorem test_step_rorc_V_R163 :
    (after ((((at_ 0xA0002000#32 0x110C3B#32).setX 2#5 0x1#32).setX 3#5 0x1#32).setFlags (fl false false false false false))).map (fun t => (t.x 1#5, t.flags.c, t.flags.z, t.flags.n))
      = some (0x0#32, true, true, false) := by decide
theorem test_step_rorc_V_R163nocu :
    (after ((((at_ 0xA0002000#32 0x110C3A#32).setX 2#5 0x1#32).setX 3#5 0x1#32).setFlags (fl false false true false false))).map (fun t => (t.x 1#5, t.flags.c))
      = some (0x80000000#32, true) := by decide
theorem test_step_rol_V_R164 :
    (after (((at_ 0xA0002000#32 0x110C3C#32).setX 2#5 0x80000001#32).setX 3#5 0x1#32)).map (fun t => t.x 1#5)
      = some 0x3#32 := by decide
theorem test_step_rolc_V_R165 :
    (after ((((at_ 0xA0002000#32 0x110C3F#32).setX 2#5 0x80000000#32).setX 3#5 0x1#32).setFlags (fl false false true false false))).map (fun t => (t.x 1#5, t.flags.c, t.flags.n, t.flags.z))
      = some (0x1#32, true, false, false) := by decide
theorem test_step_mul_V_R220 :
    (after (((at_ 0xA0002000#32 0x10C40#32).setX 2#5 0xFFFFFFFF#32).setX 3#5 0x2#32)).map (fun t => (t.cel, t.ceh))
      = some (0xFFFFFFFE#32, 0xFFFFFFFF#32) := by decide
theorem test_step_mul_V_R220f :
    (after ((((at_ 0xA0002000#32 0x10C41#32).setX 2#5 0xFFFFFFFF#32).setX 3#5 0x2#32).setFlags (fl false true false false false))).map (fun t => (t.cel, t.flags.n, t.flags.z))
      = some (0xFFFFFFFE#32, false, true) := by decide
theorem test_step_mulu_V_R221 :
    (after (((at_ 0xA0002000#32 0x10C42#32).setX 2#5 0xFFFFFFFF#32).setX 3#5 0x2#32)).map (fun t => (t.cel, t.ceh))
      = some (0xFFFFFFFE#32, 0x1#32) := by decide
theorem test_step_mulu_V_R221b :
    (after (((at_ 0xA0002000#32 0x10C42#32).setX 2#5 0xFFFFFFFF#32).setX 3#5 0xFFFFFFFF#32)).map (fun t => (t.cel, t.ceh))
      = some (0x1#32, 0xFFFFFFFE#32) := by decide
theorem test_step_div_V_R222b :
    (after (((at_ 0xA0002000#32 0x10C44#32).setX 2#5 0x80000000#32).setX 3#5 0xFFFFFFFF#32)).map (fun t => (t.cel, t.ceh))
      = some (0x80000000#32, 0x0#32) := by decide
theorem test_step_div_V_R222s2 :
    (after (((at_ 0xA0002000#32 0x10C44#32).setX 2#5 0xFFFFFFF9#32).setX 3#5 0xFFFFFFFE#32)).map (fun t => (t.cel, t.ceh))
      = some (0x3#32, 0xFFFFFFFF#32) := by decide
theorem test_step_divu_V_R223 :
    (after (((at_ 0xA0002000#32 0x10C46#32).setX 2#5 0xFFFFFFF9#32).setX 3#5 0x2#32)).map (fun t => (t.cel, t.ceh))
      = some (0x7FFFFFFC#32, 0x1#32) := by decide
theorem test_step_divu_V_R223z :
    (after ((((at_ 0xA0002000#32 0x10C46#32).setX 2#5 0x7#32).setX 3#5 0x0#32).setCe 0x5#32 0x6#32)).map (fun t => (t.cel, t.ceh))
      = some (0x5#32, 0x6#32) := by decide
theorem test_step_mfce_V_R224s2 :
    (after ((at_ 0xA0002000#32 0x400848#32).setCe 0x11111111#32 0x22222222#32)).map (fun t => (t.x 4#5, t.x 5#5))
      = some (0x22222222#32, 0x0#32) := by decide
theorem test_step_mfce_V_R224w :
    (after ((at_ 0xA0002000#32 0x1F00C48#32).setCe 0x11111111#32 0x22222222#32)).map (fun t => (t.x 31#5, t.x 0#5))
      = some (0x11111111#32, 0x22222222#32) := by decide
theorem test_step_mtce_V_R225 :
    (after (((at_ 0xA0002000#32 0x400C4A#32).setX 4#5 0xAAAAAAAA#32).setX 5#5 0xBBBBBBBB#32)).map (fun t => (t.cel, t.ceh))
      = some (0xAAAAAAAA#32, 0xBBBBBBBB#32) := by decide
theorem test_step_mfsr_V_R291 :
    (after ((at_ 0xA0002000#32 0x100050#32).setFlags (fl false true true false true))).map (fun t => t.x 1#5)
      = some 0x60000001#32 := by decide
theorem test_step_mfsr_V_R291sr5 :
    (after ((at_ 0xA0002000#32 0x101450#32).setSr 5#5 0xDEADBEEF#32)).map (fun t => t.x 1#5)
      = some 0xDEADBEEF#32 := by decide
theorem test_step_mtsr_V_R292 :
    (after ((at_ 0xA0002000#32 0x10052#32).setX 2#5 0x9FFFFFFE#32)).map (fun t => (t.flags.n, t.flags.z, t.flags.c, t.flags.v, t.flags.t))
      = some (true, false, false, true, false) := by decide
theorem test_step_mtsr_V_R292sr5 :
    (after ((at_ 0xA0002000#32 0x11452#32).setX 2#5 0xDEADBEEF#32)).map (fun t => (t.sr 5#5, t.flags.n, t.flags.t))
      = some (0xDEADBEEF#32, false, false) := by decide
theorem test_step_tCc_V_R246 :
    (after ((at_ 0xA0002000#32 0x1054#32).setFlags (fl false true false false false))).map (fun t => t.flags.t)
      = some true := by decide
theorem test_step_mvCc_V_R247 :
    (after ((at_ 0xA0002000#32 0x113C56#32).setX 2#5 0x55#32)).map (fun t => t.x 1#5)
      = some 0x55#32 := by decide
theorem test_step_mvCc_V_R247b :
    (after (((at_ 0xA0002000#32 0x111056#32).setX 2#5 0x55#32).setFlags (fl false false false false false))).map (fun t => t.x 1#5)
      = some 0x0#32 := by decide
theorem test_step_extsb_V_R173 :
    (after ((at_ 0xA0002000#32 0x110058#32).setX 2#5 0x12345680#32)).map (fun t => t.x 1#5)
      = some 0xFFFFFF80#32 := by decide
theorem test_step_extsh_V_R174 :
    (after ((at_ 0xA0002000#32 0x11005A#32).setX 2#5 0x12348000#32)).map (fun t => t.x 1#5)
      = some 0xFFFF8000#32 := by decide
theorem test_step_extzb_V_R175 :
    (after ((at_ 0xA0002000#32 0x11005C#32).setX 2#5 0x12345680#32)).map (fun t => t.x 1#5)
      = some 0x80#32 := by decide
theorem test_step_extzh_V_R176 :
    (after ((at_ 0xA0002000#32 0x11005E#32).setX 2#5 0x12348000#32)).map (fun t => t.x 1#5)
      = some 0x8000#32 := by decide
theorem test_step_slli_V_R166 :
    (after ((at_ 0xA0002000#32 0x114070#32).setX 2#5 0x1#32)).map (fun t => t.x 1#5)
      = some 0x10000#32 := by decide
theorem test_step_srli_V_R167 :
    (after ((at_ 0xA0002000#32 0x117C74#32).setX 2#5 0x80000000#32)).map (fun t => t.x 1#5)
      = some 0x1#32 := by decide
theorem test_step_srai_V_R168 :
    (after ((at_ 0xA0002000#32 0x117C76#32).setX 2#5 0x80000000#32)).map (fun t => t.x 1#5)
      = some 0xFFFFFFFF#32 := by decide
theorem test_step_rori_V_R169 :
    (after ((at_ 0xA0002000#32 0x112078#32).setX 2#5 0x12345678#32)).map (fun t => t.x 1#5)
      = some 0x78123456#32 := by decide
theorem test_step_roric_V_R170 :
    (after (((at_ 0xA0002000#32 0x11087B#32).setX 2#5 0x3#32).setFlags (fl false false false false false))).map (fun t => (t.x 1#5, t.flags.c, t.flags.n))
      = some (0x80000000#32, true, true) := by decide
theorem test_step_roli_V_R171 :
    (after ((at_ 0xA0002000#32 0x11207C#32).setX 2#5 0x12345678#32)).map (fun t => t.x 1#5)
      = some 0x34567812#32 := by decide
theorem test_step_rolic_V_R172 :
    (after (((at_ 0xA0002000#32 0x11087F#32).setX 2#5 0xC0000000#32).setFlags (fl false false false false false))).map (fun t => (t.x 1#5, t.flags.c))
      = some (0x1#32, true) := by decide
theorem test_step_addi_V_R177 :
    (after ((at_ 0xA0002000#32 0x9600042#32).setX 22#5 0x21#32)).map (fun t => t.x 22#5)
      = some 0x42#32 := by decide
theorem test_step_addi_V_R177neg :
    (after ((at_ 0xA0002000#32 0x851FFFE#32).setX 5#5 0x0#32)).map (fun t => (t.x 5#5, t.flags.n, t.flags.z, t.flags.c, t.flags.v))
      = some (0xFFFFFFFF#32, false, false, false, false) := by decide
theorem test_step_cmpi_V_R178b :
    (after ((at_ 0xA0002000#32 0x805FFFE#32).setX 0#5 0x0#32)).map (fun t => (t.flags.c, t.flags.z, t.flags.n))
      = some (false, false, false) := by decide
theorem test_step_cmpi_V_R178t :
    (after (((at_ 0xA0002000#32 0x8440014#32).setX 4#5 0xA#32).setFlags (fl false false false false true))).map (fun t => (t.flags.z, t.flags.t))
      = some (true, true) := by decide
theorem test_step_andi_V_R179 :
    (after ((at_ 0xA0002000#32 0x84801FE#32).setX 4#5 0x12345678#32)).map (fun t => t.x 4#5)
      = some 0x78#32 := by decide
theorem test_step_andi_V_R179neg :
    (after ((at_ 0xA0002000#32 0x849FE00#32).setX 4#5 0x12345678#32)).map (fun t => t.x 4#5)
      = some 0x12345600#32 := by decide
theorem test_step_ori_V_R180 :
    (after ((at_ 0xA0002000#32 0x84A0068#32).setX 4#5 0x1200#32)).map (fun t => t.x 4#5)
      = some 0x1234#32 := by decide
theorem test_step_ldi_V_R181 :
    (after (at_ 0xA0002000#32 0x96C0042#32)).map (fun t => t.x 22#5)
      = some 0x21#32 := by decide
theorem test_step_ldi_V_R181neg :
    (after (at_ 0xA0002000#32 0x87D0000#32)).map (fun t => t.x 7#5)
      = some 0xFFFF8000#32 := by decide
theorem test_step_addis_V_R182 :
    (after ((at_ 0xA0002000#32 0x28400002#32).setX 4#5 0x1234#32)).map (fun t => t.x 4#5)
      = some 0x11234#32 := by decide
theorem test_step_cmpis_V_R183 :
    (after ((at_ 0xA0002000#32 0x28440002#32).setX 4#5 0x10000#32)).map (fun t => (t.flags.z, t.flags.c, t.flags.n, t.flags.v))
      = some (true, true, false, false) := by decide
theorem test_step_andis_V_R184 :
    (after ((at_ 0xA0002000#32 0x284801FE#32).setX 4#5 0x12345678#32)).map (fun t => t.x 4#5)
      = some 0x340000#32 := by decide
theorem test_step_oris_V_R185 :
    (after ((at_ 0xA0002000#32 0x284A2468#32).setX 4#5 0x5678#32)).map (fun t => t.x 4#5)
      = some 0x12345678#32 := by decide
theorem test_step_ldis_V_R186 :
    (after (at_ 0xA0002000#32 0x284D4000#32)).map (fun t => t.x 4#5)
      = some 0xA0000000#32 := by decide
theorem test_step_j_V_R240 :
    (after (at_ 0x9E000100#32 0x10000200#32)).map (fun t => t.pc)
      = some 0x9E000200#32 := by decide
theorem test_step_j_V_R240top :
    (after (at_ 0x9E7FFFFC#32 0x11FFFFFE#32)).map (fun t => t.pc)
      = some 0x9FFFFFFE#32 := by decide
theorem test_step_jl_V_R241 :
    (after (at_ 0x9E000100#32 0x10000201#32)).map (fun t => (t.pc, t.x 3#5))
      = some (0x9E000200#32, 0x9E000104#32) := by decide
theorem test_step_bCc_V_R242b :
    (after ((at_ 0x9E000004#32 0x20001010#32).setFlags (fl false false false false false))).map (fun t => t.pc)
      = some 0x9E000008#32 := by decide
theorem test_step_bCc_V_R242c :
    (after ((at_ 0x9E000010#32 0x27FFD7F8#32).setFlags (fl false false false false false))).map (fun t => t.pc)
      = some 0x9E000008#32 := by decide
theorem test_step_bCcL_V_R243 :
    (after (at_ 0x9E000010#32 0x20003C41#32)).map (fun t => (t.pc, t.x 3#5))
      = some (0x9E000050#32, 0x9E000014#32) := by decide
theorem test_step_bCcL_V_R242nt :
    (after ((at_ 0x9E000010#32 0x20001041#32).setFlags (fl false false false false false))).map (fun t => (t.pc, t.x 3#5))
      = some (0x9E000014#32, 0x0#32) := by decide
theorem test_step_mtcr_V_R294 :
    (after ((at_ 0xA0002000#32 0x30118000#32).setX 1#5 0x9E000400#32)).map (fun t => t.cr 3#5)
      = some 0x9E000400#32 := by decide
theorem test_step_mfcr_V_R293 :
    (after ((at_ 0xA0002000#32 0x30110001#32).setCr 2#5 0x800000#32)).map (fun t => t.x 1#5)
      = some 0x800000#32 := by decide
theorem test_step_rte_V_R295 :
    (after (((at_ 0xA0002000#32 0x30000084#32).setCr 1#5 0x40000001#32).setCr 5#5 0x9E000010#32)).map (fun t => (t.flags.z, t.flags.t, t.flags.n, t.flags.c, t.flags.v, t.pc))
      = some (true, true, false, false, false, 0x9E000010#32) := by decide
theorem test_step_addri_V_R187 :
    (after ((at_ 0xA0002000#32 0x40117FF8#32).setX 2#5 0x100#32)).map (fun t => t.x 1#5)
      = some 0xFC#32 := by decide
theorem test_step_andri_V_R188 :
    (after ((at_ 0xA0002000#32 0x6011001E#32).setX 2#5 0x12345678#32)).map (fun t => t.x 1#5)
      = some 0x8#32 := by decide
theorem test_step_orri_V_R189 :
    (after ((at_ 0xA0002000#32 0x6811001E#32).setX 2#5 0x100#32)).map (fun t => t.x 1#5)
      = some 0x10F#32 := by decide
theorem test_step_lw_V_R261mis :
    (after ((at_ 0xA0002000#32 0x80110002#32).setX 2#5 0xA0000101#32)).map (fun t => t.x 1#5)
      = some 0xB3A29180#32 := by decide
theorem test_step_lw_V_R261neg :
    (after ((at_ 0xA0002000#32 0x80117F00#32).setX 2#5 0xA0000200#32)).map (fun t => t.x 1#5)
      = some 0xB3A29180#32 := by decide
theorem test_step_lh_V_R262 :
    (after ((at_ 0xA0002000#32 0x88110002#32).setX 2#5 0xA0000100#32)).map (fun t => t.x 1#5)
      = some 0xFFFFB3A2#32 := by decide
theorem test_step_lhu_V_R263 :
    (after ((at_ 0xA0002000#32 0x90110002#32).setX 2#5 0xA0000100#32)).map (fun t => t.x 1#5)
      = some 0xB3A2#32 := by decide
theorem test_step_lb_V_R264 :
    (after ((at_ 0xA0002000#32 0x98110001#32).setX 2#5 0xA0000100#32)).map (fun t => t.x 1#5)
      = some 0xFFFFFF91#32 := by decide
theorem test_step_sw_V_R265 :
    (after (((at_ 0xA0002000#32 0xA0110004#32).setX 2#5 0xA0000100#32).setX 1#5 0x11223344#32)).map (fun t => t.mem.readLE 0xA0000104 4)
      = some 0x11223344#32 := by decide
theorem test_step_sw_V_R265fl :
    (after (((at_ 0xA0002000#32 0xA0110000#32).setX 2#5 0x9E000100#32).setX 1#5 0x5#32)).map (fun t => (t.mem.readLE 0x9E000100 4, t.unmappedCount))
      = some (0x0#32, 0) := by decide
theorem test_step_sh_V_R266 :
    (after (((at_ 0xA0002000#32 0xA8110002#32).setX 2#5 0xA0000100#32).setX 1#5 0x11223344#32)).map (fun t => t.mem.readLE 0xA0000100 4)
      = some 0x33449180#32 := by decide
theorem test_step_lbu_V_R267 :
    (after ((at_ 0xA0002000#32 0xB0110001#32).setX 2#5 0xA0000100#32)).map (fun t => t.x 1#5)
      = some 0x91#32 := by decide
theorem test_step_sb_V_R268 :
    (after (((at_ 0xA0002000#32 0xB8110003#32).setX 2#5 0xA0000100#32).setX 1#5 0x11223344#32)).map (fun t => t.mem.readLE 0xA0000100 4)
      = some 0x44A29180#32 := by decide
theorem test_step_lwPre_V_R269 :
    (after ((at_ 0xA0002000#32 0x18110020#32).setX 2#5 0xA00000FC#32)).map (fun t => (t.x 1#5, t.x 2#5))
      = some (0xB3A29180#32, 0xA0000100#32) := by decide
theorem test_step_lwPre_V_R269same :
    (after ((at_ 0xA0002000#32 0x18210020#32).setX 2#5 0xA00000FC#32)).map (fun t => t.x 2#5)
      = some 0xB3A29180#32 := by decide
theorem test_step_lhPre_V_R270 :
    (after ((at_ 0xA0002000#32 0x18110011#32).setX 2#5 0xA0000100#32)).map (fun t => (t.x 1#5, t.x 2#5))
      = some (0xFFFFB3A2#32, 0xA0000102#32) := by decide
theorem test_step_lhuPre_V_R271 :
    (after ((at_ 0xA0002000#32 0x18110012#32).setX 2#5 0xA0000100#32)).map (fun t => (t.x 1#5, t.x 2#5))
      = some (0xB3A2#32, 0xA0000102#32) := by decide
theorem test_step_lbPre_V_R272 :
    (after ((at_ 0xA0002000#32 0x1811000B#32).setX 2#5 0xA0000100#32)).map (fun t => (t.x 1#5, t.x 2#5))
      = some (0xFFFFFF91#32, 0xA0000101#32) := by decide
theorem test_step_swPre_V_R273 :
    (after (((at_ 0xA0002000#32 0x184EFFE4#32).setX 29#5 0xA0001000#32).setX 4#5 0xCAFE0001#32)).map (fun t => (t.mem.readLE 0xA0000FFC 4, t.x 29#5))
      = some (0xCAFE0001#32, 0xA0000FFC#32) := by decide
theorem test_step_swPre_V_R273same :
    (after ((at_ 0xA0002000#32 0x18217FE4#32).setX 2#5 0xA0000200#32)).map (fun t => (t.mem.readLE 0xA00001FC 4, t.x 2#5))
      = some (0xA0000200#32, 0xA00001FC#32) := by decide
theorem test_step_shPre_V_R274 :
    (after (((at_ 0xA0002000#32 0x18110015#32).setX 2#5 0xA0000100#32).setX 1#5 0x11223344#32)).map (fun t => (t.mem.readLE 0xA0000102 2, t.x 2#5))
      = some (0x3344#32, 0xA0000102#32) := by decide
theorem test_step_lbuPre_V_R275 :
    (after ((at_ 0xA0002000#32 0x1811000E#32).setX 2#5 0xA0000100#32)).map (fun t => (t.x 1#5, t.x 2#5))
      = some (0x91#32, 0xA0000101#32) := by decide
theorem test_step_sbPre_V_R276 :
    (after (((at_ 0xA0002000#32 0x1811000F#32).setX 2#5 0xA0000100#32).setX 1#5 0x11223344#32)).map (fun t => (t.mem.readLE 0xA0000101 1, t.x 2#5))
      = some (0x44#32, 0xA0000101#32) := by decide
theorem test_step_lwRix_V_R277 :
    (after ((at_ 0xA0002000#32 0x38110020#32).setX 2#5 0xA00000FC#32)).map (fun t => (t.x 1#5, t.x 2#5))
      = some (0xB3A29180#32, 0xA00000FC#32) := by decide
theorem test_step_lhRix_V_R278 :
    (after ((at_ 0xA0002000#32 0x38110011#32).setX 2#5 0xA0000100#32)).map (fun t => t.x 1#5)
      = some 0xFFFFB3A2#32 := by decide
theorem test_step_lhuRix_V_R279 :
    (after ((at_ 0xA0002000#32 0x38110012#32).setX 2#5 0xA0000100#32)).map (fun t => t.x 1#5)
      = some 0xB3A2#32 := by decide
theorem test_step_lbRix_V_R280 :
    (after ((at_ 0xA0002000#32 0x3811000B#32).setX 2#5 0xA0000100#32)).map (fun t => t.x 1#5)
      = some 0xFFFFFF91#32 := by decide
theorem test_step_swRix_V_R281 :
    (after (((at_ 0xA0002000#32 0x38110024#32).setX 2#5 0xA0000100#32).setX 1#5 0x11223344#32)).map (fun t => t.mem.readLE 0xA0000104 4)
      = some 0x11223344#32 := by decide
theorem test_step_shRix_V_R282 :
    (after (((at_ 0xA0002000#32 0x38110015#32).setX 2#5 0xA0000100#32).setX 1#5 0x11223344#32)).map (fun t => t.mem.readLE 0xA0000102 2)
      = some 0x3344#32 := by decide
theorem test_step_lbuRix_V_R283 :
    (after ((at_ 0xA0002000#32 0x3811000E#32).setX 2#5 0xA0000100#32)).map (fun t => t.x 1#5)
      = some 0x91#32 := by decide
theorem test_step_sbRix_V_R284 :
    (after (((at_ 0xA0002000#32 0x3811000F#32).setX 2#5 0xA0000100#32).setX 1#5 0x11223344#32)).map (fun t => t.mem.readLE 0xA0000101 1)
      = some 0x44#32 := by decide
theorem test_step_nop16_V_R313 :
    (after (at_ 0xA0002000#32 0xE0010000#32)).map (fun t => t.pc)
      = some 0xA0002002#32 := by decide
theorem test_step_mlfh16_V_R311 :
    (after ((at_ 0xA0002000#32 0xE0010141#32).setX 20#5 0x77#32)).map (fun t => t.x 1#5)
      = some 0x77#32 := by decide
theorem test_step_mhfl16_V_R312 :
    (after ((at_ 0xA0002000#32 0xE0010D22#32).setX 2#5 0x99#32)).map (fun t => t.x 29#5)
      = some 0x99#32 := by decide
theorem test_step_mv16_V_R314 :
    (after ((at_ 0xA0002000#32 0xE0010123#32).setX 2#5 0x5#32)).map (fun t => t.x 1#5)
      = some 0x5#32 := by decide
theorem test_step_brCc16_V_R315 :
    (after ((at_ 0xA0002000#32 0xE0010F34#32).setX 3#5 0x9E000104#32)).map (fun t => t.pc)
      = some 0x9E000104#32 := by decide
theorem test_step_tCc16_V_R319 :
    (after ((at_ 0xA0002000#32 0xE0010405#32).setFlags (fl false true false false false))).map (fun t => t.flags.t)
      = some true := by decide
theorem test_step_brCcL16_V_R316 :
    (after ((at_ 0x9E000010#32 0xE0010F4C#32).setX 4#5 0xA0001000#32)).map (fun t => (t.x 3#5, t.pc))
      = some (0x9E000012#32, 0xA0001000#32) := by decide
theorem test_step_brCcL16_V_R316par :
    (after (((at_ 0x9E000010#32 0xD1AA8F4C#32).setX 4#5 0xA0001000#32).setFlags (fl false false false false true))).map (fun t => (t.pc, t.x 3#5))
      = some (0xA0001000#32, 0x9E000014#32) := by decide
theorem test_step_mtce16_V_R317 :
    (after ((at_ 0xA0002000#32 0xE0011210#32).setX 2#5 0x1234#32)).map (fun t => t.ceh)
      = some 0x1234#32 := by decide
theorem test_step_mfce16_V_R318 :
    (after ((at_ 0xA0002000#32 0xE0011101#32).setCe 0xFFFFFFFE#32 0x0#32)).map (fun t => t.x 1#5)
      = some 0xFFFFFFFE#32 := by decide
theorem test_step_add16_V_R320 :
    (after (((at_ 0xA0002000#32 0xE0012120#32).setX 1#5 0x3#32).setX 2#5 0x4#32)).map (fun t => t.x 1#5)
      = some 0x7#32 := by decide
theorem test_step_add16_V_R355a1 :
    (after (((at_ 0xA0002000#32 0xE0012120#32).setX 1#5 0x3#32).setX 2#5 0x4#32)).map (fun t => (t.x 1#5, t.pc))
      = some (0x7#32, 0xA0002002#32) := by decide
theorem test_step_sub16_V_R321 :
    (after (((at_ 0xA0002000#32 0xE0012121#32).setX 1#5 0x3#32).setX 2#5 0x4#32)).map (fun t => t.x 1#5)
      = some 0xFFFFFFFF#32 := by decide
theorem test_step_neg16_V_R322 :
    (after ((at_ 0xA0002000#32 0xE0012122#32).setX 2#5 0x1#32)).map (fun t => t.x 1#5)
      = some 0xFFFFFFFF#32 := by decide
theorem test_step_cmp16_V_R323 :
    (after (((at_ 0xA0002000#32 0xE0012123#32).setX 1#5 0x4#32).setX 2#5 0x4#32)).map (fun t => (t.flags.z, t.flags.c, t.flags.n, t.flags.v))
      = some (true, true, false, false) := by decide
theorem test_step_and16_V_R324 :
    (after (((at_ 0xA0002000#32 0xE0012124#32).setX 1#5 0xFF#32).setX 2#5 0xF#32)).map (fun t => t.x 1#5)
      = some 0xF#32 := by decide
theorem test_step_or16_V_R325 :
    (after (((at_ 0xA0002000#32 0xE0012125#32).setX 1#5 0xF0#32).setX 2#5 0xF#32)).map (fun t => t.x 1#5)
      = some 0xFF#32 := by decide
theorem test_step_not16_V_R326 :
    (after ((at_ 0xA0002000#32 0xE0012126#32).setX 2#5 0x0#32)).map (fun t => t.x 1#5)
      = some 0xFFFFFFFF#32 := by decide
theorem test_step_xor16_V_R327 :
    (after (((at_ 0xA0002000#32 0xE0012127#32).setX 1#5 0xFF#32).setX 2#5 0xF#32)).map (fun t => t.x 1#5)
      = some 0xF0#32 := by decide
theorem test_step_lw16_V_R328 :
    (after ((at_ 0xA0002000#32 0xE0012128#32).setX 2#5 0xA0000100#32)).map (fun t => t.x 1#5)
      = some 0xB3A29180#32 := by decide
theorem test_step_lh16_V_R330 :
    (after ((at_ 0xA0002000#32 0xE0012129#32).setX 2#5 0xA0000102#32)).map (fun t => t.x 1#5)
      = some 0xFFFFB3A2#32 := by decide
theorem test_step_pop16_V_R329 :
    (after ((at_ 0xA0002000#32 0xE00121AA#32).setX 2#5 0xA0000100#32)).map (fun t => (t.x 17#5, t.x 2#5))
      = some (0xB3A29180#32, 0xA0000104#32) := by decide
theorem test_step_lbu16_V_R331 :
    (after ((at_ 0xA0002000#32 0xE001212B#32).setX 2#5 0xA0000101#32)).map (fun t => t.x 1#5)
      = some 0x91#32 := by decide
theorem test_step_sw16_V_R332 :
    (after (((at_ 0xA0002000#32 0xE001212C#32).setX 1#5 0x11223344#32).setX 2#5 0xA0000104#32)).map (fun t => t.mem.readLE 0xA0000104 4)
      = some 0x11223344#32 := by decide
theorem test_step_sh16_V_R334 :
    (after (((at_ 0xA0002000#32 0xE001212D#32).setX 1#5 0x11223344#32).setX 2#5 0xA0000102#32)).map (fun t => t.mem.readLE 0xA0000102 2)
      = some 0x3344#32 := by decide
theorem test_step_push16_V_R333 :
    (after (((at_ 0xA0002000#32 0xE00121AE#32).setX 2#5 0xA0000108#32).setX 17#5 0xCAFE0001#32)).map (fun t => (t.mem.readLE 0xA0000104 4, t.x 2#5))
      = some (0xCAFE0001#32, 0xA0000104#32) := by decide
theorem test_step_sb16_V_R335 :
    (after (((at_ 0xA0002000#32 0xE001212F#32).setX 1#5 0x11223344#32).setX 2#5 0xA0000103#32)).map (fun t => t.mem.readLE 0xA0000103 1)
      = some 0x44#32 := by decide
theorem test_step_j16_V_R337 :
    (after (at_ 0x9E000100#32 0xE0013200#32)).map (fun t => t.pc)
      = some 0x9E000200#32 := by decide
theorem test_step_jl16_V_R336 :
    (after (at_ 0x9E000100#32 0xE0013201#32)).map (fun t => (t.pc, t.x 3#5))
      = some (0x9E000200#32, 0x9E000102#32) := by decide
theorem test_step_bCc16_V_R338b :
    (after (at_ 0x9E000010#32 0xE0014FFF#32)).map (fun t => t.pc)
      = some 0x9E00000E#32 := by decide
theorem test_step_bCc16_V_R338nt :
    (after ((at_ 0x9E000010#32 0xE0014404#32).setFlags (fl false false false false false))).map (fun t => t.pc)
      = some 0x9E000012#32 := by decide
theorem test_step_ldiu16_V_R355b1 :
    (after ((at_ 0xA0002000#32 0xD1AAD055#32).setFlags (fl false false false false true))).map (fun t => (t.x 0#5, t.x 1#5, t.pc))
      = some (0x55#32, 0x0#32, 0xA0002004#32) := by decide
theorem test_step_ldiu16_V_R355b0 :
    (after ((at_ 0xA0002000#32 0xD1AAD055#32).setFlags (fl false false false false false))).map (fun t => (t.x 0#5, t.x 1#5, t.pc))
      = some (0x0#32, 0xAA#32, 0xA0002004#32) := by decide
theorem test_step_addei16_V_R339 :
    (after ((at_ 0xA0002000#32 0xE0016110#32).setX 1#5 0x100#32)).map (fun t => t.x 1#5)
      = some 0x104#32 := by decide
theorem test_step_addei16_V_R339b :
    (after ((at_ 0xA0002000#32 0xE0016190#32).setX 1#5 0x100#32)).map (fun t => t.x 1#5)
      = some 0xFC#32 := by decide
theorem test_step_slli16_V_R340 :
    (after ((at_ 0xA0002000#32 0xE0016121#32).setX 1#5 0x1#32)).map (fun t => t.x 1#5)
      = some 0x10#32 := by decide
theorem test_step_slli16_V_R354h1 :
    (after ((at_ 0xA0002002#32 0xE1212120#32).setX 1#5 0x1#32)).map (fun t => (t.x 1#5, t.pc))
      = some (0x10#32, 0xA0002004#32) := by decide
theorem test_step_sdbbp16_V_R341 :
    (after ((at_ 0x9E000012#32 0xE0020000#32).setCr 3#5 0x9E000400#32)).map (fun t => (t.cr 5#5, t.pc, ((t.cr 2#5).extractLsb' 18 6).toNat))
      = some (0x9E000012#32, 0x9E000480#32, 32) := by decide
theorem test_step_srli16_V_R342 :
    (after ((at_ 0xA0002000#32 0xE0016123#32).setX 1#5 0x80#32)).map (fun t => t.x 1#5)
      = some 0x8#32 := by decide
theorem test_step_bitclr16_V_R343 :
    (after ((at_ 0xA0002000#32 0xE0016104#32).setX 1#5 0xFF#32)).map (fun t => t.x 1#5)
      = some 0xFE#32 := by decide
theorem test_step_bitset16_V_R344 :
    (after ((at_ 0xA0002000#32 0xE00161FD#32).setX 1#5 0x0#32)).map (fun t => t.x 1#5)
      = some 0x80000000#32 := by decide
theorem test_step_bittst16_V_R345 :
    (after ((at_ 0xA0002000#32 0xE0016126#32).setX 1#5 0x10#32)).map (fun t => (t.flags.t, t.flags.z))
      = some (true, false) := by decide
theorem test_step_bittgl16_V_R346 :
    (after ((at_ 0xA0002000#32 0xE0016127#32).setX 1#5 0x10#32)).map (fun t => t.x 1#5)
      = some 0x0#32 := by decide
theorem test_step_lwp16_V_R347 :
    (after ((at_ 0xA0002000#32 0xE0017108#32).setX 29#5 0xA00000FC#32)).map (fun t => t.x 1#5)
      = some 0xB3A29180#32 := by decide
theorem test_step_lhp16_V_R348 :
    (after ((at_ 0xA0002000#32 0xE0017109#32).setX 29#5 0xA0000100#32)).map (fun t => t.x 1#5)
      = some 0xFFFFB3A2#32 := by decide
theorem test_step_lbup16_V_R349 :
    (after ((at_ 0xA0002000#32 0xE001710B#32).setX 29#5 0xA0000100#32)).map (fun t => t.x 1#5)
      = some 0x91#32 := by decide
theorem test_step_swp16_V_R350 :
    (after (((at_ 0xA0002000#32 0xE001710C#32).setX 29#5 0xA0000100#32).setX 1#5 0x11223344#32)).map (fun t => t.mem.readLE 0xA0000104 4)
      = some 0x11223344#32 := by decide
theorem test_step_shp16_V_R351 :
    (after (((at_ 0xA0002000#32 0xE001710D#32).setX 29#5 0xA0000100#32).setX 1#5 0x11223344#32)).map (fun t => t.mem.readLE 0xA0000102 2)
      = some 0x3344#32 := by decide
theorem test_step_sbp16_V_R352 :
    (after (((at_ 0xA0002000#32 0xE001710F#32).setX 29#5 0xA0000100#32).setX 1#5 0x11223344#32)).map (fun t => t.mem.readLE 0xA0000101 1)
      = some 0x44#32 := by decide
theorem test_step_halted_V_R37 :
    (after ({ (at_ 0xA0002000#32 0x110C10#32) with halted := true })).map (fun t => (t.pc, t.cycles, t.instret))
      = some (0xA0002000#32, 0, 0) := by decide
theorem test_step_invalid_V_R298 :
    (after (((at_ 0x9E000040#32 0x48000000#32).setCr 3#5 0x9E000400#32).setCr 0#5 0x1#32)).map (fun t => (t.cr 5#5, ((t.cr 2#5).extractLsb' 18 6).toNat, t.cr 0#5, t.pc))
      = some (0x9E000040#32, 32, 0x0#32, 0x9E000480#32) := by decide
theorem test_step_invalid_V_R298f6 :
    (after (((at_ 0x9E000040#32 0x2#32).setCr 3#5 0x9E000400#32).setFlags (fl true false false false true))).map (fun t => (t.cr 5#5, ((t.cr 2#5).extractLsb' 18 6).toNat, t.cr 1#5, t.pc, t.cycles, t.instret))
      = some (0x9E000040#32, 32, 0x80000001#32, 0x9E000480#32, 4, 1) := by decide
theorem test_step_invalid_V_R298i :
    (after ((at_ 0xA0002000#32 0x8020000#32).setCr 3#5 0xA0004000#32)).map (fun t => (((t.cr 2#5).extractLsb' 18 6).toNat, t.pc, t.cr 5#5))
      = some (32, 0xA0004080#32, 0xA0002000#32) := by decide
theorem test_step_invalid_V_R298cr :
    (after ((at_ 0xA0002000#32 0x30000002#32).setCr 3#5 0xA0004000#32)).map (fun t => (((t.cr 2#5).extractLsb' 18 6).toNat, t.pc))
      = some (32, 0xA0004080#32) := by decide
theorem test_step_invalid16_V_R354inv :
    (after (((at_ 0xA0002000#32 0xF10AD055#32).setCr 3#5 0xA0004000#32).setFlags (fl false false false false false))).map (fun t => (((t.cr 2#5).extractLsb' 18 6).toNat, t.cr 5#5, t.pc))
      = some (32, 0xA0002000#32, 0xA0004080#32) := by decide
theorem test_step_invalid16_V_R310res :
    (after ((at_ 0xA0002000#32 0xE0010006#32).setCr 3#5 0xA0004000#32)).map (fun t => (((t.cr 2#5).extractLsb' 18 6).toNat, t.pc))
      = some (32, 0xA0004080#32) := by decide

/-! ## Two or more steps of one slot: V-R355 and the halves of a compact slot -/

theorem test_decode_parallel_h0 : reads 0xD1AAD055#32 false true (.ldiu16 .parallel 0#5 0x55#8) = true := by decide
theorem test_decode_parallel_h1 : reads 0xD1AAD055#32 true false (.ldiu16 .parallel 1#5 0xAA#8) = true := by decide
theorem test_decode_single_h1 : reads 0xE1212120#32 true false (.slli16 .single 1#5 4#5) = true := by decide
theorem test_step_single_h1_V_R354h1 :
    (after ((at_ 0xA0002002#32 0xE1212120#32).setX 1#5 1#32)).map (fun t => (t.x 1#5, t.pc)) = some (0x10#32, 0xA0002004#32) := by decide
theorem test_step_parallel_link_V_R316par :
    (after (((at_ 0x9E000010#32 0xD1AA8F4C#32).setX 4#5 0xA0001000#32).setFlags (fl false false false false true))).map
      (fun t => (t.pc, t.x 3#5)) = some (0xA0001000#32, 0x9E000014#32) := by decide
theorem test_step_parallel_skips_reserved_V_R354skip :
    (after (((at_ 0xA0002000#32 0xF10AD055#32).setX 29#5 0xA0000100#32).setFlags (fl false false false false true))).map
      (fun t => (t.x 0#5, t.pc)) = some (0x55#32, 0xA0002004#32) := by decide
theorem test_step_ignored_bits_V_R117 :
    (after (((at_ 0xA0002000#32 0x06110C10#32).setX 2#5 3#32).setX 3#5 4#32)).map (fun t => t.x 1#5) = some 7#32 := by decide
theorem test_step_odd_pc_V_R23 :
    (after (((at_ 0xA0002002#32 0x00110C10#32).setX 2#5 3#32).setX 3#5 4#32)).map (fun t => (t.x 1#5, t.pc))
      = some (7#32, 0xA0002006#32) := by decide
theorem test_step_unmapped_load_V_R261un :
    (after ((at_ 0xA0002000#32 0x80110000#32).setX 2#5 0x12345678#32)).map (fun t => (t.x 1#5, t.unmappedCount)) = some (0#32, 1) := by
  decide
theorem test_step_counts : (after (at_ 0xA0002000#32 0#32)).map (fun t => (t.cycles, t.instret, t.sliceRemaining)) = some (4, 1, 9996) := by
  decide

/-! ## Encoder and the opcode table's numbering -/

theorem test_encode_ldi : encode (.ldi 22#5 0x21#16) = 0x096C0042#32 := by decide
theorem test_encode_beq : encode (.bCc .eq 8#22) = 0x20001010#32 := by decide
theorem test_encode_bne_back : encode (.bCc .ne 0x3FFFFA#22) = 0x27FFD7F4#32 := by decide
theorem test_encode_sw : encode (.sw 4#5 6#5 0x40#15) = 0xA0430040#32 := by decide
theorem test_encode_mtcr : encode (.mtcr 14#5 0#5) = 0x30E00000#32 := by decide
theorem test_encode_pop : encode (.pop16 .single 17#5 2#5) = 0xE00121AA#32 := by decide
theorem test_encode_high : encodeHigh (.swp16 .single 0#5 1#5) = 0xF00C0000#32 := by decide
theorem test_table_word : decodeTableWord 32 0x096C0042 = some (.ldi 22#5 0x21#16) := by decide
theorem test_table_half : decodeTableWord 16 0x2120 = some (.add16 .single 1#5 2#5) := by decide
theorem test_table_half_parallel : decodeTableWord 16 0xD055 = some (.ldiu16 .parallel 0#5 0x55#8) := by decide
theorem test_table_reserved : decodeTableWord 32 0x48000000 = none := by decide
theorem test_fetch_word_runs : (after (State.reset.withFetchWord 32 0x096C0042)).map (fun t => (t.x 22#5, t.pc)) = some (0x21#32, 0x9E000004#32) := by
  decide
theorem test_fetch_half_runs : (after (State.reset.withFetchWord 16 0x51AA)).map (fun t => (t.x 1#5, t.pc)) = some (0xAA#32, 0x9E000002#32) := by
  decide
theorem test_fetch_parallel_half_runs :
    (after (State.reset.withFetchWord 16 0xD055)).map (fun t => (t.x 0#5, t.pc)) = some (0x55#32, 0x9E000004#32) := by decide

/-! ## Well-formedness: an ill-formed term for each check, and the last register each field admits -/

theorem test_refuses_high_rd :
    ([.mv16 .single 16#5 0#5, .add16 .single 16#5 0#5, .sub16 .single 16#5 0#5, .neg16 .single 16#5 0#5, .cmp16 .single 16#5 0#5,
      .and16 .single 16#5 0#5, .or16 .single 16#5 0#5, .not16 .single 16#5 0#5, .xor16 .single 16#5 0#5, .lw16 .single 16#5 0#5,
      .lh16 .single 16#5 0#5, .lbu16 .single 16#5 0#5, .sw16 .single 16#5 0#5, .sh16 .single 16#5 0#5, .sb16 .single 16#5 0#5,
      .mlfh16 .single 16#5 16#5] : List Instr).all (fun i => !i.wellFormed) = true := by decide
theorem test_refuses_high_ra :
    ([.mv16 .single 0#5 16#5, .add16 .single 0#5 16#5, .sub16 .single 0#5 16#5, .neg16 .single 0#5 16#5, .cmp16 .single 0#5 16#5,
      .and16 .single 0#5 16#5, .or16 .single 0#5 16#5, .not16 .single 0#5 16#5, .xor16 .single 0#5 16#5, .lw16 .single 0#5 16#5,
      .lh16 .single 0#5 16#5, .lbu16 .single 0#5 16#5, .sw16 .single 0#5 16#5, .sh16 .single 0#5 16#5, .sb16 .single 0#5 16#5,
      .mhfl16 .single 16#5 16#5, .brCc16 .single .al 16#5, .brCcL16 .single .al 16#5] : List Instr).all (fun i => !i.wellFormed) = true := by
  decide
theorem test_refuses_high_only_register :
    ([.mtce16 .single 16#5 .cel, .mfce16 .single 16#5 .cel, .ldiu16 .single 16#5 0#8, .addei16 .single 16#5 0#5, .slli16 .single 16#5 0#5,
      .srli16 .single 16#5 0#5, .bitclr16 .single 16#5 0#5, .bitset16 .single 16#5 0#5, .bittst16 .single 16#5 0#5,
      .bittgl16 .single 16#5 0#5, .lwp16 .single 16#5 0#5, .lhp16 .single 16#5 0#5, .lbup16 .single 16#5 0#5, .swp16 .single 16#5 0#5,
      .shp16 .single 16#5 0#5, .sbp16 .single 16#5 0#5] : List Instr).all (fun i => !i.wellFormed) = true := by decide
theorem test_refuses_low_in_high_bank :
    ([.mlfh16 .single 0#5 15#5, .mhfl16 .single 15#5 0#5] : List Instr).all (fun i => !i.wellFormed) = true := by decide
theorem test_refuses_wide_base :
    ([.pop16 .single 0#5 8#5, .push16 .single 0#5 8#5] : List Instr).all (fun i => !i.wellFormed) = true := by decide
theorem test_admits_last_registers :
    ([.mv16 .single 15#5 15#5, .mlfh16 .single 15#5 16#5, .mhfl16 .single 16#5 15#5, .pop16 .single 31#5 7#5, .push16 .single 31#5 7#5,
      .ldiu16 .single 15#5 255#8] : List Instr).all (fun i => i.wellFormed) = true := by decide

/-! ## Memory: V-P4, V-P5 and the fallback cells -/

theorem test_little_endian_V_P4 :
    let s := State.reset.memWrite 0xA0000200#32 .word 0x11223344#32
    ([0xA0000200#32, 0xA0000201#32, 0xA0000202#32, 0xA0000203#32].map fun a => (s.memRead a .byte).1, (s.memRead 0xA0000202#32 .half).1)
      = ([0x44#32, 0x33#32, 0x22#32, 0x11#32], 0x1122#32) := by decide
theorem test_mmio_byte_merge_V_P5 :
    ((State.reset.memWrite 0x080A0000#32 .word 0x11223344#32).memWrite 0x080A0001#32 .byte 0xAB#32).intc.mask = 0x1122AB44#32 := by decide
theorem test_fallback_cell_R72 :
    (((State.reset.memWrite 0x0803FFFC#32 .word 0xCAFE0001#32).memRead 0x0803FFFC#32 .word).1,
      ((State.reset.memWrite 0x0803FFFC#32 .word 0xCAFE0001#32).memRead 0x08FFFFFE#32 .half).1) = (0xCAFE0001#32, 0xCAFE#32) := by decide
theorem test_write_zero_removes_entry :
    ((State.reset.memWrite 0xA0000000#32 .word 0x12345678#32).memWrite 0xA0000000#32 .word 0#32).mem = [] := by decide

/-! ## Exceptions and interrupts: V-P9, V-P6, V-P7, V-I1 -/

/-- The start of V-P9. -/
def p9 : State :=
  ((((State.reset.goto 0x9E000120#32).setCr 3#5 0xA0004000#32).setCr 0#5 1#32).setCr 2#5 0xFFFFFFFF#32).setFlags
    (fl true false true false true)

theorem test_enter_V_P9 :
    (let t := p9.enter 17#6; (t.pc, t.cr 5#5, t.cr 1#5, t.sr 0#5, t.cr 2#5, t.cr 0#5))
      = (0xA0004044#32, 0x9E000120#32, 0xA0000001#32, 0xA0000001#32, 0xFF47FFFF#32, 0#32) := by decide
theorem test_return_V_P9 :
    (let t := ((p9.enter 17#6).setFlags (fl false false false false false)).returnFromException; (t.pc, t.flags, t.cr 0#5))
      = (0x9E000120#32, fl true false true false true, 0#32) := by decide

/-- The start of V-I1 step 6. -/
def i1 : State :=
  (((State.reset.memWrite 0x080A0000#32 .word 0x200#32).setCr 0#5 1#32).setCr 3#5 0x9E000400#32).goto 0x9E000000#32

theorem test_trigger_masked_V_P6 :
    (let t := (State.reset.setCr 0#5 1#32).trigger 9#5; (t.intc.status, t.pc, t.cr 0#5)) = (0x200#32, 0x9E000000#32, 1#32) := by decide
theorem test_trigger_closed_gate_V_I1 :
    (let t := (i1.setCr 0#5 0#32).trigger 9#5; (t.intc.status, t.pc, (t.memWrite 0x080A0008#32 .word 0#32).intc.status,
      (t.memRead 0x08020008#32 .word).1, (t.memRead 0x080E0008#32 .word).1)) = (0x200#32, 0x9E000000#32, 0x200#32, 0x200#32, 0x200#32) := by
  decide
theorem test_trigger_enters_V_I1 :
    (let t := i1.trigger 9#5; (t.intc.status, t.pc, t.cr 0#5, t.cr 2#5)) = (0x200#32, 0x9E000424#32, 0#32, 0x00240000#32) := by decide
theorem test_ack_V_P7 :
    (let t := ((State.reset.trigger 9#5).memWrite 0x080A000C#32 .word 0x200#32);
      ((t.memRead 0x080A0008#32 .word).1, (t.memRead 0x080A000C#32 .word).1)) = (0#32, 0#32) := by decide

/-! ## Timers: V-S4, V-P8, V-T1 -/

/-- A machine whose timer channel has these COUNT, CMP and CTRL and whose interrupt controller admits line 5, the handler base being 0x9E000400. -/
def timed (k : ChannelId) (count cmp ctrl : Word) : State :=
  (((State.reset.memWrite 0x080A0000#32 .word 0x20#32).setCr 0#5 1#32).setCr 3#5 0x9E000400#32).setTimers
    (State.reset.timers.set k { TimerChannel.reset with count := count, cmp := cmp, ctrl := ctrl })

/-- COUNT, CTRL and STAT of a channel. -/
def channel (k : ChannelId) (s : State) : Word × Word × Word :=
  let c := s.timers.get k
  (c.count, c.ctrl, c.read .stat)

theorem test_timer_before_compare_V_S4 :
    (let t := (timed .ch0 90#32 100#32 0x09#32).tick 9; (channel .ch0 t, t.intc.status, t.pc))
      = ((99#32, 0x09#32, 0#32), 0#32, 0x9E000000#32) := by decide
theorem test_timer_compare_V_S4 :
    (let t := (timed .ch0 99#32 100#32 0x09#32).tick 301; (channel .ch0 t, t.intc.status, t.pc, t.cr 2#5))
      = ((100#32, 0x08#32, 1#32), 0x20#32, 0x9E000414#32, 0x00140000#32) := by decide
theorem test_timer_scaled_V_P8 :
    (let t := (timed .ch1 0#32 5#32 0x69#32).tick 39; (channel .ch1 t, t.timers.ch1.cyclesUntilTick, channel .ch1 (t.tick 1)))
      = ((4#32, 0x69#32, 0#32), 7, (5#32, 0x68#32, 1#32)) := by decide
theorem test_timer_down_repeat_V_T1 :
    (let t := (timed .ch2 2#32 7#32 0x07#32).tick 2; (channel .ch2 t, channel .ch2 (t.tick 1), channel .ch2 (t.tick 3)))
      = ((0#32, 0x07#32, 0#32), (7#32, 0x07#32, 3#32), (5#32, 0x07#32, 3#32)) := by decide
theorem test_timer_down_once_V_T1 :
    (let t := (timed .ch2 1#32 7#32 0x03#32).tick 1; (channel .ch2 t, channel .ch2 (t.tick 1), channel .ch2 (t.tick 2)))
      = ((0#32, 0x03#32, 0#32), (0#32, 0x02#32, 2#32), (0#32, 0x02#32, 2#32)) := by decide
theorem test_timer_equal_at_start_V_T1 : channel .ch2 ((timed .ch2 5#32 5#32 0x01#32).tick 1) = (6#32, 0x01#32, 0#32) := by decide
theorem test_timer_wrap_V_T1 : channel .ch2 ((timed .ch2 0xFFFFFFFF#32 5#32 0x05#32).tick 1) = (0#32, 0x05#32, 2#32) := by decide
theorem test_timer_stat_strobe_V_T1 :
    (let t := (timed .ch2 0#32 7#32 0x07#32).tick 1;
      (channel .ch2 (t.memWrite 0x080A002C#32 .word 0x01#32), channel .ch2 (t.memWrite 0x080A002C#32 .word 0x80#32)))
      = ((7#32, 0x07#32, 3#32), (7#32, 0x07#32, 0#32)) := by decide

/-! ## UART: V-S6, V-U1, V-U2, V-U3 -/

theorem test_uart_echo_V_S6 :
    (let s := State.reset.enqueueRx 0x41#8; let r := s.memRead 0x080B0000#32 .word;
      ((s.memRead 0x080B000C#32 .word).1, r.1, (r.2.memRead 0x080B000C#32 .word).1, (r.2.memRead 0x080B0000#32 .word).1))
      = (0xD0#32, 0x41#32, 0x90#32, 0#32) := by decide
theorem test_uart_order_V_U1 :
    (let r := ((State.reset.enqueueRx 0x41#8).enqueueRx 0x42#8).memRead 0x080B0000#32 .word;
      (r.1, (r.2.memRead 0x080B000C#32 .word).1, (r.2.memRead 0x080B0000#32 .word).1)) = (0x41#32, 0xD0#32, 0x42#32) := by decide
theorem test_uart_transmit_V_U2 :
    (let s := State.reset.memWrite 0x080B0000#32 .word 0x12345678#32; (s.drainTx.1, s.drainTx.2.drainTx.1)) = ([0x78#8], []) := by decide
theorem test_uart_byte_store_pops_V_U3 :
    (let s := (State.reset.enqueueRx 0x41#8).memWrite 0x080B0000#32 .byte 0x5A#32; (s.uart.rxFifo, s.uart.status, s.uart.txLog))
      = ([], 0x90#32, [0x5A#8]) := by decide

/-! ## VDU: V-S5, V-V1 -/

/-- The four bytes of a converted pixel. -/
def rgba (f : Config.VduFormat) (p : Word) : List Byte := let q := convertPixel f p; [q.r, q.g, q.b, q.a]

theorem test_rgb565_V_V1 :
    [0xF800#32, 0x07E0#32, 0x0001#32, 0x0020#32, 0x8410#32, 0xFFFF#32].map (rgba .rgb565)
      = [[0xFF, 0, 0, 0xFF], [0, 0xFF, 0, 0xFF], [0, 0, 8, 0xFF], [0, 4, 0, 0xFF], [0x84, 0x82, 0x84, 0xFF], [0xFF, 0xFF, 0xFF, 0xFF]] := by decide
theorem test_rgb555_V_V1 :
    [0x7C00#32, 0x83E0#32, 0x4210#32].map (rgba .rgb555) = [[0xFF, 0, 0, 0xFF], [0, 0xFF, 0, 0xFF], [0x84, 0x84, 0x84, 0xFF]] := by decide
theorem test_argb8888_V_V1 : rgba .argb8888 0x44332211#32 = [0x22, 0x33, 0x44, 0x11] := by decide
theorem test_rgba8888_V_V1 : rgba .rgba8888 0x44332211#32 = [0x11, 0x22, 0x33, 0x44] := by decide

/-- The start of V-S5, with another framebuffer address. -/
def s5 (fb : Word) : State :=
  let s := State.reset.memWrite 0xA0000000#32 .word 0x07E0F800#32
  s.setVdu { s.vdu with ctrl := 1#16, fbAddrHigh := fb.extractLsb' 16 16, fbAddrLow := fb.extractLsb' 0 16 }

theorem test_render_V_S5 :
    (let t := (s5 0xA0000000#32).renderWith 2 1 .rgb565; (t.vdu.pixels, t.vdu.status, t.intc.status))
      = ([(0, 0xFF#8), (3, 0xFF#8), (5, 0xFF#8), (7, 0xFF#8)], 1#16, 0x10#32) := by decide
theorem test_render_bounds_V_V1 :
    (let t := (s5 0xA0FFFFFE#32).renderWith 2 1 .rgb565; (t.vdu.boundsErrors, t.vdu.status, t.intc.status, t.vdu.pixels)) = (1, 0#16, 0#32, []) := by
  decide
theorem test_render_last_V_V1 :
    (let t := (s5 0xA0FFFFFC#32).renderWith 2 1 .rgb565; (t.vdu.boundsErrors, t.vdu.status)) = (0, 1#16) := by decide
theorem test_render_segment_V_V1 :
    (let t := (s5 0x12000000#32).renderWith 2 1 .rgb565; (t.vdu.segmentErrors, t.vdu.status, t.intc.status)) = (1, 0#16, 0#32) := by decide

/-! ## The loader: V-P10, and the engine's units -/

/-- The first eight bytes of flash. -/
def flash8 (s : State) : List Byte := (List.range 8).map fun k => s.mem.read (0x9E000000 + k)

/-- The proper subset of V-P10 (b): the opcodes of 32-bit instructions. -/
def subset (op : BitVec 5) : Bool := decide (op.toNat < 0x18)

theorem test_load_default_never_swaps_V_P10a :
    (let t := State.construction.loadRom [0x09, 0x6C, 0x00, 0x42, 0x09, 0x60, 0x00, 0x42]; (flash8 t, t.mode, t.pc))
      = ([0x09, 0x6C, 0x00, 0x42, 0x09, 0x60, 0x00, 0x42], .paused, 0x9E000000#32) := by decide
theorem test_load_subset_swaps_V_P10b :
    (let t := State.construction.loadRomWith subset [0x09, 0x6C, 0x00, 0xC2, 0x09, 0x60, 0x00, 0x42]; (flash8 t, t.mode))
      = ([0xC2, 0x00, 0x6C, 0x09, 0x42, 0x00, 0x60, 0x09], .paused) := by decide
theorem test_load_failure_V_P10c :
    State.reset.loadRomWith subset [0xF8, 0x00, 0x00, 0xF8] = { State.reset with mode := .error } := by decide
set_option maxRecDepth 8000 in
theorem test_load_magic_V_P10d :
    (State.reset.loadRom (List.replicate 0x4E 0#8 ++ [0x61, 0x4D, 0x38, 0x32] ++ List.replicate 14 0#8)).pc = 0x9E000100#32 := by decide
theorem test_reset_keeps_flash_V_P10d :
    (let t := (State.reset.loadRom [0x11]).engineReset; (t.mem, t.pc, t.mode)) = ([(0x9E000000, 0x11#8)], 0x9E000000#32, .paused) := by decide
theorem test_frame_begins :
    (after { State.reset.start with vdu := { Vdu.reset with status := 1#16 } }).map (fun t => (t.cyclesRemaining, t.vdu.status, t.instret))
      = some (some 564480, 0#16, 0) := by decide
theorem test_frame_ends :
    (after { State.reset.start with cyclesRemaining := some 0 }).map (fun t => (t.cyclesRemaining, t.frameCounter, t.intc.status))
      = some (none, 1, 0x10#32) := by decide
theorem test_breakpoint_pauses :
    (after { State.reset.start with cyclesRemaining := some 8, breakpoints := [0x9E000000#32] }).map
      (fun t => (t.mode, t.cyclesRemaining, t.instret)) = some (.paused, none, 0) := by decide
theorem test_slice_end_ticks_PROG3 :
    (after { (timed .ch1 0#32 3#32 0x09#32).goto 0x9E000030#32 with sliceRemaining := 4 }).map
      (fun t => (channel .ch1 t, t.sliceRemaining, t.pc, t.cr 5#5)) = some ((3#32, 0x08#32, 1#32), 10000, 0x9E000414#32, 0x9E000034#32) := by
  decide
theorem test_host_refused_inside_frame_R508 :
    [HostOp.reset, HostOp.enqueueRx 0x41#8, HostOp.drainTx].all (fun op =>
      match hostOp op { State.reset.start with cyclesRemaining := some 8 } with | .refused .insideFrame => true | _ => false) = true := by decide
theorem test_host_receives_between_frames_R517 :
    (match hostOp (.enqueueRx 0x41#8) State.reset.start with | .next r => r.1.uart.rxFifo | _ => []) = [0x41#8] := by decide
theorem test_host_cpu_step_is_not_charged :
    (match hostOp .cpuStep State.reset with | .next r => (r.1.instret, r.1.sliceRemaining) | _ => (0, 0)) = (1, 10000) := by decide
theorem test_host_cpu_reset_keeps_devices :
    (match hostOp .cpuReset ((State.reset.setX 1#5 1#32).enqueueRx 0x41#8) with | .next r => (r.1.x 1#5, r.1.uart.rxFifo) | _ => (9#32, []))
      = (0#32, [0x41#8]) := by decide
theorem test_host_channel_zero :
    (match hostOp (.writeTimer .ch0 .cmp 7#32) State.reset with | .next r => r.1.timers.ch0.cmp | _ => 0#32) = 7#32 := by decide

/-! ## Witnesses: data that meet the hypotheses of each statement, clause by clause at the edges of its range -/

theorem test_witness_AluPropertiesP1P2P3 :
    (((State.reset.setX 2#5 0xFFFFFFFF#32).setX 3#5 1#32).x 2#5 = 0xFFFFFFFF#32)
      ∧ (((State.reset.setX 2#5 0xFFFFFFFF#32).setX 3#5 1#32).x 3#5 = 1#32) ∧ 0 < 32 ∧ 31 < 32 := by decide
theorem test_witness_OnlyTheTableWritesFlags :
    (Claims.writesFlags (.add 1#5 2#5 3#5 false) = false ∧ ∃ t, exec (.add 1#5 2#5 3#5 false) State.reset = .next t)
      ∧ (Claims.writesFlags (.mtsr 1#5 2#5) = false ∧ ∃ t, exec (.mtsr 1#5 2#5) State.reset = .next t) :=
  ⟨⟨rfl, _, rfl⟩, ⟨rfl, _, rfl⟩⟩
theorem test_witness_DivisionTruncatesTowardZero :
    State.reset.x 3#5 = 0#32 ∧ (State.reset.setX 3#5 1#32).x 3#5 ≠ 0#32 ∧ (State.reset.setX 3#5 0xFFFFFFFF#32).x 3#5 ≠ 0#32 := by decide
theorem test_witness_AccumulatorTransfers :
    (1#5 : Reg) ≠ 31#5 ∧ (1#5 : Reg).toNat ≠ ((31#5 : Reg).toNat + 1) % 32 ∧ (30#5 : Reg).toNat ≠ ((31#5 : Reg).toNat + 1) % 32 := by decide
theorem test_witness_OnlySixInstructionsWriteCe :
    Claims.writesAccumulator (.mfce 1#5 3#2) = false ∧ ∃ t, exec (.mfce 1#5 3#2) State.reset = .next t := ⟨rfl, _, rfl⟩
theorem test_witness_Stores :
    State.reset.mem.wf ∧ storePlace 0xA0000000#32 .byte = some 0xA0000000 ∧ storePlace 0xA0FFFFFF#32 .word = some 0xA0FFFFFC
      ∧ storePlace 0x0800000B#32 .half = some 0x0800000A ∧ storePlace 0x9E000000#32 .word = none ∧ storePlace 0x12000000#32 .word = none
      ∧ storePlace 0x080B0000#32 .word = none := by decide
theorem test_witness_UnmappedSegments :
    [0x00000000#32, 0x07FFFFFF#32, 0x09000000#32, 0x9DFFFFFF#32, 0x9F000000#32, 0x9FFFFFFF#32, 0xA1000000#32, 0xFFFFFFFF#32].all
      (fun a => a.toNat / 2 ^ 24 != 0x08 && a.toNat / 2 ^ 24 != 0x9E && a.toNat / 2 ^ 24 != 0xA0
        && State.reset.memRead a .word == (0#32, { State.reset with unmappedCount := 1 })) = true := by decide
theorem test_witness_BackingReads :
    [0x9E000000#32, 0x9E7FFFFF#32].all (fun a => decide (0x9E000000 ≤ a.toNat ∧ a.toNat < 0x9E800000)) = true
      ∧ [0xA0000000#32, 0xA0FFFFFF#32].all (fun a => decide (0xA0000000 ≤ a.toNat ∧ a.toNat < 0xA1000000)) = true
      ∧ [0x9E800000#32, 0x9EFFFFFF#32].all (fun a => decide (0x9E800000 ≤ a.toNat ∧ a.toNat < 0x9F000000)
        && State.reset.memRead a .word == (0#32, State.reset) && State.reset.memWrite a .word 5#32 == State.reset) = true := by decide
theorem test_witness_WorkedMemoryLawsP4P5 :
    Memory.wf [] ∧ Config.dram.readOnly = false ∧ Config.dram.size % 4 = 0 ∧ Config.dram.size ≤ 0x1000000
      ∧ [0x000000#24, 0xFFFFFC#24].all (fun o => decide (o.toNat % 4 = 0 ∧ o.toNat < Config.dram.size)) = true
      ∧ (3#24).toNat < 4 := by decide
theorem test_witness_FallbackCellsReadBack :
    mmioWord (wordIndex 0x000008#24) = .cell 2#16 ∧ mmioWord (wordIndex 0xFFFFFF#24) = .cell 0xFFFF#16 ∧ State.reset.mem.wf
      ∧ 0x0803FFFB < cellAddress 0xFFFF#16 ∧ cellAddress 0xFFFF#16 + 4 ≤ 0x08040000 := by decide
theorem test_witness_IoImageIsMirrored :
    [(0x08000000#32, 63), (0x0803FFFF#32, 63), (0x08FFFFFF#32, 0)].all
      (fun p => decide (p.1.toNat / 2 ^ 24 = 0x08 ∧ p.1.toNat % 2 ^ 24 + p.2 * 0x40000 < 2 ^ 24)) = true := by decide
theorem test_witness_NoStepWritesFlash :
    (∃ t, step State.reset = .next t) ∧ Claims.inFlash 0x9E000000 ∧ Claims.inFlash 0x9E7FFFFF :=
  ⟨⟨_, rfl⟩, ⟨by decide, by decide⟩, ⟨by decide, by decide⟩⟩
theorem test_witness_NopOnlyAdvances :
    [0x00000000#32, 0x07FFFF81#32].all (fun w => w.extractLsb' 27 5 == 0#5 && w.extractLsb' 1 6 == 0#6 && reads w true true .nop) = true
      ∧ Config.regionOf (segmentOf 0x00000000#32) = none ∧ Config.regionOf (segmentOf 0xFFFFFFFF#32) = none
      ∧ State.reset.halted = false ∧ State.reset.pc = 0x9E000000#32 ∧ (∀ k, k < 4 → State.reset.mem.read (0x9E000000 + k) = 0#8) := by decide
theorem test_witness_SpecialRegisterMoves : (1#5 : Reg) ≠ 0#5 ∧ (31#5 : Reg) ≠ 0#5 ∧ (0#5 : Reg) ≠ 31#5 := by decide
theorem test_witness_EntrySavesAndVectors :
    [3#5, 4#5, 6#5, 31#5].all (fun j => decide (j ∉ [0#5, 1#5, 2#5, 5#5])) = true := by decide
theorem test_witness_TrapsAndBreakpointsEnter :
    condHolds .al State.reset.flags = true ∧ condHolds .eq State.reset.flags = false ∧ condHolds .cc State.reset.flags = true := by decide
theorem test_witness_InstructionsLeaveTheRest :
    (∃ t, exec (.sw 1#5 2#5 0#15) State.reset = .next t) ∧ (∀ sb ra, Instr.sw 1#5 2#5 0#15 ≠ .mtsr sb ra)
      ∧ Claims.writesControl (.sw 1#5 2#5 0#15) = false := ⟨⟨_, rfl⟩, by intros; simp, rfl⟩
theorem test_witness_TriggerLatchesThenGates :
    State.reset.intc.mask.getLsbD 31 = false ∧ (State.reset.cr 0#5).getLsbD 0 = false
      ∧ [0, 31].all (fun n => (State.reset.memWrite 0x080A0000#32 .word 0x80000001#32).intc.mask.getLsbD n) = true
      ∧ ((State.reset.setCr 0#5 1#32).cr 0#5).getLsbD 0 = true := by decide
theorem test_witness_InterruptControllerRegisters :
    0 < 4 ∧ 3 < 4 ∧ (0x080A0000#32).toNat / 16 = 0x080A000 ∧ (0x080A000F#32).toNat / 16 = 0x080A000 ∧ ((State.reset.trigger 31#5).memWrite 0x080A000F#32 .byte 0x80#32).intc.status = 0#32 := by decide

/-- The hypotheses of TimerHitsCompareOnce. -/
def countsUp (c : TimerChannel) : Bool :=
  c.ctrl.getLsbD 0 && !c.ctrl.getLsbD 1 && c.ctrl.getLsbD 3 && c.count == 0#32 && c.cyclesUntilTick == 0 && c.cmp != 0#32

theorem test_witness_TimerHitsCompareOnce :
    [timed .ch0 0#32 1#32 0x09#32, timed .ch0 0#32 0xFFFFFFFF#32 0x09#32, timed .ch0 0#32 1#32 0xED#32].all
      (fun s => countsUp (s.timers.get .ch0)) = true := by decide
theorem test_witness_ChannelZeroStaysAtReset :
    State.reset.timers.ch0 = TimerChannel.reset ∧ ∃ t, step State.reset = .next t := ⟨rfl, _, rfl⟩
theorem test_witness_UartQueuesInOrder :
    (State.reset.uart.Ok ∧ State.reset.uart.rxFifo = [])
      ∧ ((State.reset.enqueueRx 0x41#8).uart.Ok ∧ (State.reset.enqueueRx 0x41#8).uart.rxFifo = [0x41#8])
      ∧ (((State.reset.enqueueRx 0x41#8).enqueueRx 0x42#8).uart.Ok
        ∧ ((State.reset.enqueueRx 0x41#8).enqueueRx 0x42#8).uart.rxFifo = 0x41#8 :: [0x42#8]) :=
  ⟨⟨⟨by decide, by decide⟩, by decide⟩, ⟨⟨by decide, by decide⟩, by decide⟩, ⟨⟨by decide, by decide⟩, by decide⟩⟩
theorem test_witness_UartRegisterWords :
    (State.reset.enqueueRx 0x41#8).memRead 0x080B000C#32 .word = (0xD0#32, State.reset.enqueueRx 0x41#8) ∧ 0 < 4 ∧ 3 < 4
      ∧ 0x080B0004#32 ∈ [0x080B0004#32, 0x080B0014#32, 0x080B0018#32, 0x080B001C#32]
      ∧ State.reset.memWrite 0x080B001F#32 .byte 5#32 = State.reset := by decide
theorem test_vdu_word_write_R471 :
    (let v := (State.reset.memWrite 0x080C0004#32 .word 0x12345678#32).vdu; (v.fbAddrHigh, v.fbAddrLow)) = (0x5678#16, 0x1234#16) := by decide
/-- The integer formulas of R481 give the bytes of V-V1. -/
theorem test_component_V_V1 :
    ([0, 1, 2, 3].map (Claims.component .rgb565 fun j => [0x10, 0x84].getD j 0),
      [0, 1, 2, 3].map (Claims.component .rgb555 fun j => [0xE0, 0x83].getD j 0),
      [0, 1, 2, 3].map (Claims.component .argb8888 fun j => [0x11, 0x22, 0x33, 0x44].getD j 0),
      [0, 1, 2, 3].map (Claims.component .rgba8888 fun j => [0x11, 0x22, 0x33, 0x44].getD j 0))
      = ([0x84, 0x82, 0x84, 0xFF], [0, 0xFF, 0, 0xFF], [0x22, 0x33, 0x44, 0x11], [0x11, 0x22, 0x33, 0x44]) := by decide
theorem test_witness_RenderConvertsEveryPixel :
    (s5 0xA0000000#32).vdu.pixels.wf ∧ Config.regionOf (segmentOf 0x12000000#32) = none ∧ Config.regionOf (segmentOf 0x08000000#32) = some .mmio
      ∧ Config.regionOf (segmentOf 0xA0FFFFFC#32) = some (.backing Config.dram) ∧ ¬ Config.dram.size < 0xFFFFFC + 2 * 1 * 2
      ∧ Config.dram.size < 0xFFFFFD + 2 * 1 * 2 ∧ 1 < 2 * 1 ∧ 4 * (2 * 1) ≤ 8 := by decide
theorem test_render_mmio_is_a_bounds_error : ((s5 0x08000000#32).renderWith 2 1 .rgb565).vdu.boundsErrors = 1 := by decide
theorem test_witness_InvalidIsExactlyTheReserved :
    (reserved 0x48000000#32 false false = true ∧ (0x48000000#32).extractLsb' 30 2 ≠ 3#2)
      ∧ (reserved 0xBFFFFFFF#32 false false = false ∧ (0xBFFFFFFF#32).extractLsb' 30 2 ≠ 3#2)
      ∧ (reserved 0xE0010006#32 false false = true ∧ (0xE0010006#32).extractLsb' 30 2 = 3#2)
      ∧ (reserved 0xFFFFFFFF#32 false true = false ∧ (0xFFFFFFFF#32).extractLsb' 30 2 = 3#2) := by decide
theorem test_witness_InvalidEnters :
    ∃ e, decodeSlot 0x48000000#32 (State.reset.pc.getLsbD 1) State.reset.flags.t = .error e := ⟨_, rfl⟩
theorem test_witness_BitsTwentySixTwentyFiveIgnored :
    opField 0x00110C10#32 ≠ 4#5 ∧ isCompact 0x00110C10#32 = false ∧ opField 0xBFFFFFFF#32 ≠ 4#5 ∧ isCompact 0xBFFFFFFF#32 = false := by decide
theorem test_witness_CompactSlotSelectsOneHalf :
    [0xC0000000#32, 0xC0008000#32, 0xFFFF7FFF#32, 0xFFFFFFFF#32].map
      (fun w => (decide (w.toNat / 2 ^ 27 ∈ [0x18, 0x19, 0x1A, 0x1B, 0x1C, 0x1D, 0x1E, 0x1F]), w.getLsbD 15))
      = [(true, false), (true, true), (true, false), (true, true)] := by decide
theorem test_witness_DecodeUndoesEncode :
    (Instr.mlfh16 .single 15#5 31#5).wellFormed = true ∧ fitsHigh (.mlfh16 .single 15#5 31#5) = false
      ∧ (Instr.sbp16 .parallel 15#5 31#5).wellFormed = true ∧ fitsHigh (.sbp16 .parallel 15#5 31#5) = true := by decide
/-- Inside a frame with `c` cycles left. -/
def framed (c : Int) : State := { State.reset.start with cyclesRemaining := some c }

theorem test_witness_StepRunsTheDecodedInstruction :
    (State.reset.halted = false ∧ reads State.reset.fetch.1 (State.reset.pc.getLsbD 1) State.reset.flags.t .nop = true
      ∧ Instr.nop.wellFormed = true ∧ State.reset.mode = .paused)
      ∧ ((framed 4).halted = false ∧ reads (framed 4).fetch.1 ((framed 4).pc.getLsbD 1) (framed 4).flags.t .nop = true
        ∧ (framed 4).mode = .running ∧ (framed 4).cyclesRemaining = some 4 ∧ (0 : Int) < 4 ∧ (framed 4).pc ∉ (framed 4).breakpoints) := by
  decide
theorem test_witness_StepEntersOnReserved :
    let s := at_ 0xA0002000#32 0x48000000#32
    (s.halted = false ∧ reserved s.fetch.1 (s.pc.getLsbD 1) s.flags.t = true ∧ s.mode = .paused)
      ∧ ({ s with mode := .running, cyclesRemaining := some 4 } : State).pc ∉ s.breakpoints := by decide
theorem test_witness_StepOfHaltedAndOtherUnits :
    ({ State.reset with halted := true } : State).mode = .paused ∧ ({ framed 564480 with halted := true } : State).halted = true
      ∧ ({ framed 4 with breakpoints := [0x9E000000#32] } : State).pc ∈ [0x9E000000#32]
      ∧ (State.reset.start.mode = .running ∧ State.reset.start.cyclesRemaining = none) ∧ ((framed 0).cyclesRemaining = some 0 ∧ (0 : Int) ≤ 0)
      ∧ State.construction.mode = .stopped := by decide
theorem test_halted_step_is_charged :
    (after { State.reset with halted := true }).map (fun t => (t.pc, t.instret, t.sliceRemaining)) = some (0x9E000000#32, 0, 9996) := by decide

/-- A state inside a frame with a byte of DRAM, a byte of an I/O cell, a queued byte and a lit pixel component. -/
def busy : State :=
  { State.reset with
    mem := [(0x08000009, 7#8), (0xA0FFFFFF, 9#8)]
    uart := Uart.reset.enqueueRx 0x41#8
    vdu := { Vdu.reset with pixels := [(3, 0xFF#8)] }
    mode := .running
    cyclesRemaining := some 4 }

theorem test_witness_InvariantKeptByEveryStep : busy.Inv ∧ ∃ t, step busy = .next t := by
  refine ⟨⟨⟨by decide, ?_⟩, ⟨by decide, ?_⟩, ⟨by decide, by decide⟩, Or.inl rfl, ⟨by decide, ?_, by decide, by decide⟩, fun _ => rfl⟩, ⟨_, rfl⟩⟩
  · intro c hc
    simp only [busy, List.mem_cons, List.not_mem_nil, or_false] at hc
    rcases hc with rfl | rfl
    · exact Or.inr (Or.inr ⟨2#16, by decide, by decide, by decide⟩)
    · exact Or.inr (Or.inl (by decide))
  · intro c hc
    simp only [busy, List.mem_singleton] at hc
    subst hc
    have h : 0 < Config.vduW * Config.vduH := Nat.mul_pos (Nat.succ_pos _) (Nat.succ_pos _)
    show 3 < 4 * (Config.vduW * Config.vduH)
    omega
  · intro c hc
    cases hc
    decide
theorem test_witness_FrameIsExactlyItsSteps :
    (State.reset.start.mode = .running ∧ State.reset.start.cyclesRemaining = none ∧ State.reset.start.halted = false
      ∧ ∀ k, 1 ≤ k → k ≤ 141120 → (Claims.advanced^[k] State.reset.start).pc ∉ State.reset.start.breakpoints)
      ∧ (framed 0).cyclesRemaining ≠ none :=
  ⟨⟨rfl, rfl, rfl, fun _ _ _ => List.not_mem_nil⟩, by decide⟩
theorem test_witness_ResetValues :
    Claims.inFlash 0x9E7FFFFF ∧ ¬ Claims.inFlash 0x9E800000 ∧ ¬ Claims.inFlash 0x9DFFFFFF := by unfold Claims.inFlash; decide
theorem test_witness_SliceTicksOnceIn2500 : State.reset.sliceRemaining = 10000 ∧ 0 < 2500 ∧ 2499 < 2500 := by decide
theorem test_witness_StartAndPauseMoveOnlyTheirMode :
    State.reset.mode = .paused ∧ State.construction.mode ≠ .paused ∧ State.reset.start.mode = .running ∧ State.construction.mode ≠ .running := by
  decide
theorem test_witness_LoadRomPlacesTheImage :
    State.reset.mem.wf ∧ 0 < [0x11#8, 0x22#8].length ∧ 1 < [0x11#8, 0x22#8].length ∧ 1 < 0x800000
      ∧ 0x9E000000 + min [0x11#8, 0x22#8].length 0x800000 ≤ 0x9E000002 ∧ 0x9DFFFFFF < 0x9E000000 := by decide

end Sys2Proof.Tests
end

section
/-!
PROOFS. The state (spec/10_state.md): what executing an instruction can change (`exec_effect`, from which the frame statement follows), the special
register moves, the flags and their sr0 image, the reset values, and the machine invariant, kept by every state operation and so by every step.
-/

namespace Sys2Proof.Machine

open Claims

/-! ## What executing an instruction can do -/

/-- All that executing `i` can do: compute registers, flags and the accumulator; load; store; write a system register; or write
control registers. `mtsr` alone does the fourth, `mtcr` and the instructions that raise an exception the fifth. -/
inductive Effect (i : Instr) (s t : State) : Prop
  | computes (h : t = { s with regs := t.regs, pc := t.pc, flags := t.flags, cel := t.cel, ceh := t.ceh })
  | loads (a : Word) (sz : Size) (h : t = { (s.memRead a sz).2 with regs := t.regs, pc := t.pc })
  | stores (a : Word) (sz : Size) (v : Word) (h : t = { s.memWrite a sz v with regs := t.regs, pc := t.pc })
  | writesSystem (sb ra : Reg) (hi : i = .mtsr sb ra) (h : t = { s with flags := t.flags, sysRegs := t.sysRegs, pc := t.pc })
  | writesControl (hi : writesControl i = true) (h : t = { s with ctlRegs := t.ctlRegs, pc := t.pc })

/-- A transfer changes at most registers and pc. -/
theorem Effect.of_branch (i : Instr) (s : State) (taken link : Bool) (target fall : Word) :
    Effect i s (s.branch taken link target fall) := by
  obtain ⟨-, -, h⟩ := s.branch_spec taken link target fall
  exact .computes (by rw [h])

/-- A load, whether or not it also updates its base, ends in the state the read left but for registers and pc. -/
theorem Effect.of_load {i : Instr} {s u : State} {a : Word} {sz : Size} (h : u = { (s.memRead a sz).2 with regs := u.regs }) (pc : Word) :
    Effect i s (u.goto pc) :=
  .loads a sz (by rw [h]; rfl)

theorem Effect.of_store {i : Instr} {s u : State} {a : Word} {sz : Size} {v : Word} (h : u = { s.memWrite a sz v with regs := u.regs })
    (pc : Word) : Effect i s (u.goto pc) :=
  .stores a sz v (by rw [h]; rfl)

/-- A store through a base register that was written first is that store followed by the register write. -/
theorem State.setX_memWrite (s : State) (rd : Reg) (r a : Word) (sz : Size) (v : Word) :
    (s.setX rd r).memWrite a sz v = (s.memWrite a sz v).setX rd r := by
  unfold State.memWrite
  split
  · rfl
  · rfl
  · unfold mmioStore
    cases sz <;> cases mmioWord (wordIndex (offsetOf a)) <;> rfl

/-- A write of sr0 changes the flags, one of sr1 to sr31 the system registers (R27). -/
theorem State.setSr_state (s : State) (i : Reg) (v : Word) :
    s.setSr i v = { s with flags := (s.setSr i v).flags, sysRegs := (s.setSr i v).sysRegs } := by
  unfold State.setSr
  split <;> rfl

theorem exec_effect {i : Instr} {s t : State} (h : exec i s = .next t) : Effect i s t := by
  cases i
  case j | jl | bCc | bCcL | brCc | brCcL | j16 | jl16 | bCc16 | brCc16 | brCcL16 =>
    obtain rfl := Host.Outcome.next.inj h
    exact .of_branch ..
  case lw | lh | lhu | lb | lbu | lwRix | lhRix | lhuRix | lbRix | lbuRix | lw16 | lh16 | lbu16 | lwp16 | lhp16 | lbup16 =>
    obtain rfl := Host.Outcome.next.inj h
    exact .of_load (s.load_spec ..).2.2 _
  case lwPre | lhPre | lhuPre | lbPre | lbuPre | pop16 =>
    obtain rfl := Host.Outcome.next.inj h
    exact .of_load (s.loadUpdate_spec ..).2.2.2 _
  case sw | sh | sb | swRix | shRix | sbRix | sw16 | sh16 | sb16 | swp16 | shp16 | sbp16 =>
    obtain rfl := Host.Outcome.next.inj h
    exact .of_store rfl _
  case swPre | shPre | sbPre =>
    obtain rfl := Host.Outcome.next.inj h
    exact .of_store (s.storeUpdate_spec ..).2.2.2 _
  case push16 m rd ra =>
    obtain rfl := Host.Outcome.next.inj h
    exact .of_store (by rw [State.setX_memWrite]; rfl) _
  case mtsr sb ra =>
    obtain rfl := Host.Outcome.next.inj h
    exact .writesSystem sb ra rfl (by rw [s.setSr_state]; rfl)
  case mtcr =>
    obtain rfl := Host.Outcome.next.inj h
    exact .writesControl rfl rfl
  case sdbbp | sdbbp16 =>
    obtain rfl := Host.Outcome.next.inj h
    exact .writesControl rfl (s.enter_state _)
  case trapCc c =>
    simp only [exec_trapCc, execTrapCc] at h
    split at h
    all_goals obtain rfl := Host.Outcome.next.inj h
    · exact .writesControl rfl (s.enter_state _)
    · exact .computes rfl
  case mvCc | div | divu | mfce | mtce | mfce16 | mtce16 =>
    obtain rfl := Host.Outcome.next.inj h
    refine .computes ?_
    split <;> rfl
  all_goals
    obtain rfl := Host.Outcome.next.inj h
    exact .computes rfl

/-! ## What no instruction changes -/

/-- Settles O37, from what executing an instruction can do. -/
theorem instructionsLeaveTheRest : Obligations.InstructionsLeaveTheRest := by
  intro i s t h
  cases exec_effect h with
  | computes h => exact ⟨by rw [h], fun _ => by rw [h], fun _ => by rw [h]⟩
  | loads a sz h =>
    refine ⟨?_, fun _ => by rw [h]; simp, fun _ => by rw [h]; simp⟩
    rcases s.memRead_state a sz with e | e | e <;> rw [h, e] <;> rfl
  | stores a sz v h =>
    refine ⟨?_, fun _ => by rw [h]; simp, fun _ => by rw [h]; simp⟩
    rw [h, s.memWrite_state a sz v]
  | writesSystem sb ra hi h => exact ⟨by rw [h], fun hn => absurd hi (hn sb ra), fun _ => by rw [h]⟩
  | writesControl hi h => exact ⟨by rw [h], fun _ => by rw [h], fun hn => by simp [hi] at hn⟩

/-! ## The special registers -/

theorem yieldsReg_of_setX {i : Instr} {s : State} {rd : Reg} {r : Word} (h : exec i s = done32 (s.setX rd r)) :
    YieldsReg i s rd r s.flags (s.pc + 4#32) :=
  ⟨_, h, s.x_setX_same rd r, fun j hj => s.x_setX_ne rd j r hj, rfl, rfl, fun _ => rfl, rfl⟩

/-- Settles O33: each move is one register write and the advance. -/
theorem specialRegisterMoves : Obligations.SpecialRegisterMoves := by
  intro s rd ra sb
  refine ⟨yieldsReg_of_setX rfl, fun _ => yieldsReg_of_setX rfl, ?mtsr_flags, fun hsb => ?mtsr_storage, yieldsReg_of_setX rfl, ?mtcr⟩
  case mtsr_flags => exact ⟨_, rfl, fun _ => rfl, rfl⟩
  case mtsr_storage =>
    have hsr := s.setSr_of_ne sb (s.x ra) hsb
    exact ⟨_, rfl, s.sr_setSr_same sb _ hsb, fun j hj => s.sr_setSr_ne sb j _ hj hsb, fun _ => by simp, by rw [hsr]; rfl⟩
  case mtcr => exact ⟨_, rfl, s.cr_setCr_same sb _, fun j hj => s.cr_setCr_ne sb j _ hj, fun _ => rfl, rfl⟩

/-! ## The flags -/

/-- Settles O17: in each row the code names its condition, whose Boolean test reads as the row says. -/
theorem conditionTable : Obligations.ConditionTable := by
  intro f
  refine ⟨?_, ?_, ?_, ?_, ?_, ?_, ?_, ?_, ?_, ?_, ?_, ?_, ?_, ?_, ?_, ?_⟩ <;> simp [Cond.ofBits, condHolds]

theorem Flags.pack_toNat (f : Flags) :
    f.pack.toNat = f.n.toNat * 2 ^ 31 + f.z.toNat * 2 ^ 30 + f.c.toNat * 2 ^ 29 + f.v.toNat * 2 ^ 28 + f.t.toNat := by
  obtain ⟨n, z, c, v, t⟩ := f
  revert n z c v t
  decide

theorem getLsbD_place_ofBool (b : Bool) (k i : Nat) (hk : k < 32) :
    (place 32 (BitVec.ofBool b) k).getLsbD i = (decide (i = k) && b) := by
  rw [bit_place, BitVec.getLsbD_ofBool]
  by_cases h : i = k
  · simp [h, hk]
  · have hik : ¬ i < k → i - k ≠ 0 := by omega
    by_cases hlt : i < k <;> simp_all

theorem Flags.getLsbD_pack (f : Flags) (i : Nat) :
    f.pack.getLsbD i = (decide (i = 31) && f.n || decide (i = 30) && f.z || decide (i = 29) && f.c || decide (i = 28) && f.v
      || decide (i = 0) && f.t) := by
  simp only [Flags.pack, BitVec.getLsbD_or, getLsbD_place_ofBool _ _ i, Nat.reduceLT]

theorem Flags.unpack_pack (f : Flags) : Flags.unpack f.pack = f := by
  simp [Flags.unpack, Flags.getLsbD_pack, -BitVec.getLsbD_eq_getElem]

theorem Flags.pack_unpack (v : Word) : (Flags.unpack v).pack = v &&& 0xF0000001#32 := by
  apply BitVec.eq_of_getLsbD_eq
  intro i hi
  rw [Flags.getLsbD_pack, BitVec.getLsbD_and]
  interval_cases i <;> simp [Flags.unpack]

/-- Settles O32. -/
theorem flagImagePacksAndUnpacks : Obligations.FlagImagePacksAndUnpacks :=
  ⟨fun f => ⟨f.pack_toNat, f.unpack_pack⟩, fun v => ⟨rfl, Flags.pack_unpack v⟩⟩

/-! ## Reset -/

/-- A memory filtered by address reads as before where the filter holds, and as never written elsewhere. -/
theorem Memory.read_filter (p : Nat → Bool) (m : Memory) (a : Nat) :
    Memory.read (m.filter fun c => p c.1) a = if p a then m.read a else Memory.fill := by
  induction m with
  | nil => simp [Memory.read]
  | cons d m ih =>
    obtain ⟨k, b⟩ := d
    rw [List.filter_cons]
    by_cases hk : k = a
    · subst hk
      by_cases hp : p k <;> simp [hp, ih, Memory.read]
    · by_cases hp : p k <;> simp [hp, ih, Memory.read, hk]

theorem read_flashBytes (m : Memory) (a : Nat) :
    (flashBytes m).read a
      = if Config.flash.base ≤ a ∧ a < Config.flash.base + Config.flash.size then m.read a else 0#8 := by
  have h := Memory.read_filter
    (fun k => decide (Config.flash.base ≤ k) && decide (k < Config.flash.base + Config.flash.size)) m a
  simp only [Bool.and_eq_true, decide_eq_true_eq] at h
  exact h

theorem State.x_reset (i : Reg) : State.reset.x i = 0#32 := by simp [State.x, State.reset]

theorem State.cr_reset (i : Reg) : State.reset.cr i = 0#32 := by simp [State.cr, State.reset]

theorem State.sr_reset (i : Reg) : State.reset.sr i = 0#32 := by
  unfold State.sr
  split
  · decide
  · simp [State.reset]

/-- Settles O53. Every clause on one item is the value R46 lists; the last two say what `reset()` keeps. -/
theorem resetValues : Obligations.ResetValues := by
  refine ⟨fun i => ⟨State.x_reset i, State.cr_reset i, State.sr_reset i⟩, rfl, rfl, rfl, rfl, rfl, rfl, rfl, fun _ => rfl, rfl,
    rfl, fun k => by cases k <;> rfl, rfl, rfl, rfl, rfl, rfl, by decide, rfl, rfl, rfl, fun _ => rfl, rfl, rfl, rfl, rfl, rfl,
    rfl, fun u => ⟨rfl, ?_, ?_⟩⟩
  · exact fun a ha => (read_flashBytes u.mem a).trans (if_pos ha)
  · exact fun a ha => (read_flashBytes u.mem a).trans (if_neg ha)

/-! ## The invariant: one rule per state operation -/

/-- The fields the invariant speaks of. -/
def State.guarded (s : State) : Memory × Uart × Vdu × EngineMode × Int × Option Int × Nat × Nat :=
  (s.mem, s.uart, s.vdu, s.mode, s.sliceRemaining, s.cyclesRemaining, s.cycles, s.instret)

theorem State.Inv.of_guarded_eq {s t : State} (hs : s.Inv) (h : t.guarded = s.guarded) : t.Inv := by
  simp only [State.guarded, Prod.mk.injEq] at h
  obtain ⟨hmem, huart, hvdu, hmode, hslice, hframe, hcycles, hinstret⟩ := h
  obtain ⟨⟨wf, inside⟩, pixels, uart, vduStatus, ⟨slice, frame, idle, cycles⟩, vblank⟩ := hs
  exact ⟨⟨hmem ▸ wf, hmem ▸ inside⟩, hvdu ▸ pixels, huart ▸ uart, hvdu ▸ vduStatus,
    ⟨hslice ▸ slice, hframe ▸ frame, hmode ▸ hframe ▸ idle, hcycles ▸ hinstret ▸ cycles⟩,
    fun hc => hvdu ▸ vblank (hframe ▸ hc)⟩

theorem State.Inv.setMem {s : State} (hs : s.Inv) {m : Memory} (hm : (s.setMem m).StorageOk) : (s.setMem m).Inv :=
  { hs with storage := hm, counters := { hs.counters with } }

theorem State.Inv.setUart {s : State} (hs : s.Inv) {u : Uart} (hu : u.Ok) : (s.setUart u).Inv :=
  { hs with storage := { hs.storage with }, uart := hu, counters := { hs.counters with } }

theorem State.Inv.setVdu {s : State} (hs : s.Inv) {v : Vdu} (hp : v.PixelsOk) (hst : v.StatusOk)
    (hv : s.cyclesRemaining ≠ none → v.status = 0#16) : (s.setVdu v).Inv :=
  { hs with storage := { hs.storage with }, pixels := hp, vduStatus := hst, counters := { hs.counters with }, vblank := hv }

/-- A write of the VDU that leaves STATUS and the pixels (R473, R475). -/
theorem State.Inv.setVdu_registers {s : State} (hs : s.Inv) {v : Vdu} (hp : v.pixels = s.vdu.pixels)
    (hst : v.status = s.vdu.status) : (s.setVdu v).Inv :=
  hs.setVdu ⟨hp ▸ hs.pixels.wf, hp ▸ hs.pixels.inside⟩ (by simpa [Vdu.StatusOk, hst] using hs.vduStatus)
    fun hc => hst.trans (hs.vblank hc)

theorem State.Inv.countStep {s : State} (hs : s.Inv) : s.countStep.Inv :=
  { hs with
    storage := { hs.storage with }
    counters := { hs.counters with
      cycles := by rw [State.countStep_cycles, State.countStep_instret, hs.counters.cycles, Nat.mul_succ] } }

theorem State.Inv.setSlice {s : State} (hs : s.Inv) {n : Int}
    (hn : 0 < n ∧ n ≤ Config.cyclesPerSlice ∧ n % Config.cyclesPerInstruction = 0) :
    ({ s with sliceRemaining := n } : State).Inv :=
  { hs with storage := { hs.storage with }, counters := { hs.counters with slice := hn } }

/-- Between two frames neither the mode nor vblank is bound. -/
theorem State.Inv.leaveFrame {s : State} (hs : s.Inv) (mode : EngineMode) (frames : Nat) :
    ({ s with mode := mode, frameCounter := frames, cyclesRemaining := none } : State).Inv :=
  { hs with
    storage := { hs.storage with }
    counters := { hs.counters with
      frame := by simp
      idle := fun _ => rfl }
    vblank := fun h => absurd rfl h }

theorem State.Inv.setFrame {s : State} (hs : s.Inv) {c : Int} (hm : s.mode = .running) (hv : s.vdu.status = 0#16)
    (hc : 0 ≤ c ∧ c ≤ Config.cyclesPerFrame ∧ c % Config.cyclesPerInstruction = 0) :
    ({ s with cyclesRemaining := some c } : State).Inv :=
  { hs with
    storage := { hs.storage with }
    counters := { hs.counters with frame := fun _ h => Option.some.inj h ▸ hc, idle := fun h => absurd hm h }
    vblank := fun _ => hv }

/-! ## Exceptions, interrupts and the timer block leave the invariant alone -/

theorem State.Inv.enter {s : State} (hs : s.Inv) (c : Cause) : (s.enter c).Inv :=
  hs.of_guarded_eq (by simp [State.guarded])

theorem State.Inv.trigger {s : State} (hs : s.Inv) (n : BitVec 5) : (s.trigger n).Inv :=
  hs.of_guarded_eq (by simp [State.guarded])

theorem State.Inv.tick {s : State} (hs : s.Inv) (n : Nat) : (s.tick n).Inv :=
  hs.of_guarded_eq (by rw [s.tick_alike n]; rfl)

/-! ## Memory accesses -/

/-- A read of DATA keeps STATUS as the queue is (R459, R462). -/
theorem Uart.Ok.readData {u : Uart} (hu : u.Ok) : u.readData.2.Ok := by
  unfold Uart.readData
  split
  · exact hu
  · next b rest hq =>
    have hst : u.status = 0xD0#32 := by simpa [hq] using hu.status
    refine ⟨?_, rfl⟩
    cases rest with
    | nil => simp [hst, Uart.rxReadyMask]
    | cons => exact hst

theorem State.Inv.readUart {s : State} (hs : s.Inv) : (s.setUart s.uart.readData.2).Inv := hs.setUart hs.uart.readData

theorem State.Inv.memRead {s : State} (hs : s.Inv) (a : Word) (sz : Size) : (s.memRead a sz).2.Inv := by
  rcases s.memRead_state a sz with h | h | h <;> rw [h]
  · exact hs
  · exact hs.of_guarded_eq rfl
  · exact hs.readUart

theorem State.Inv.mmioRead {s : State} (hs : s.Inv) (w : MmioWord) : (mmioRead w s).2.Inv := by
  rcases mmioRead_state w s with h | h <;> rw [h]
  · exact hs
  · exact hs.readUart

/-- A write of bytes that are all storage keeps storage as it must be (R39). -/
theorem State.StorageOk.writeLE {s : State} (hs : s.StorageOk) {a n : Nat} (v : Word)
    (hin : ∀ x, a ≤ x → x < a + n → isStorage x) : (s.setMem (s.mem.writeLE a v n)).StorageOk where
  wf := Memory.wf_writeLE _ _ _ _ hs.wf
  inside c hc := (Memory.writeLE_mem _ _ _ _ _ hc).elim (fun h => hin _ h.1 h.2) (hs.inside c)

theorem regionOf_backing {seg : BitVec 8} {b : Config.Backing} (h : Config.regionOf seg = some (.backing b)) :
    b = Config.flash ∨ b = Config.dram := by
  unfold Config.regionOf at h
  split at h <;> simp_all

/-- A place inside flash or DRAM is storage (R67). -/
theorem isStorage_of_backingPlace {b : Config.Backing} (hb : b = Config.flash ∨ b = Config.dram) {off : BitVec 24} {sz : Size} {p x : Nat}
    (hp : backingPlace b off sz = some p) (hlo : p ≤ x) (hhi : x < p + sz.bytes) : isStorage x := by
  simp only [backingPlace, Option.ite_none_right_eq_some, Option.some.injEq] at hp
  have hx : b.base ≤ x ∧ x < b.base + b.size := by omega
  rcases hb with rfl | rfl
  · exact .inl hx
  · exact .inr (.inl hx)

theorem isStorage_of_backingStorePlace {b : Config.Backing} (hb : b = Config.flash ∨ b = Config.dram) {off : BitVec 24} {sz : Size}
    {p x : Nat} (hp : backingStorePlace b off sz = some p) (hlo : p ≤ x) (hhi : x < p + sz.bytes) : isStorage x := by
  unfold backingStorePlace at hp
  split at hp
  · contradiction
  · exact isStorage_of_backingPlace hb hp hlo hhi

theorem State.Inv.backingWrite {s : State} (hs : s.Inv) {b : Config.Backing} (hb : b = Config.flash ∨ b = Config.dram) (off : BitVec 24)
    (sz : Size) (v : Word) : (s.setMem (backingWrite b s.mem off sz v)).Inv := by
  unfold Machine.backingWrite
  split
  · next p hp => exact hs.setMem (hs.storage.writeLE v fun x hlo hhi => isStorage_of_backingStorePlace hb hp hlo hhi)
  · exact hs.of_guarded_eq rfl

/-- The cell a word index names is that of the index itself (R72). -/
theorem mmioWord_cell {k i : BitVec 16} (h : mmioWord k = .cell i) : mmioWord i = .cell i := by
  unfold mmioWord at h
  split at h <;> cases h
  unfold mmioWord
  split <;> simp_all

theorem State.Inv.mmioWrite {s : State} (hs : s.Inv) (k : BitVec 16) (v : Word) : (mmioWrite (mmioWord k) v s).Inv := by
  cases hw : mmioWord k with
  | intcMask | intcPrio | intcStatus | intcAck | timer | uartStatus | unknown => exact hs.of_guarded_eq rfl
  | uartData | uartCtrl | uartBaud => exact hs.setUart ⟨hs.uart.status, hs.uart.rxReg⟩
  | vduCtrlStatus | vduFbAddr => exact hs.setVdu_registers rfl rfl
  | cell i => exact hs.setMem (hs.storage.writeLE v fun x hlo hhi => .inr (.inr ⟨i, mmioWord_cell hw, hlo, hhi⟩))

theorem State.Inv.mmioStore {s : State} (hs : s.Inv) (off : BitVec 24) (sz : Size) (v : Word) : (mmioStore off sz v s).Inv := by
  unfold Machine.mmioStore
  cases sz with
  | word => exact hs.mmioWrite _ v
  | half | byte => exact (hs.mmioRead _).mmioWrite _ _

theorem State.Inv.memWrite {s : State} (hs : s.Inv) (a : Word) (sz : Size) (v : Word) : (s.memWrite a sz v).Inv := by
  unfold State.memWrite
  split
  · exact hs.of_guarded_eq rfl
  · next b hb => exact hs.backingWrite (regionOf_backing hb) _ sz v
  · exact hs.mmioStore _ sz v

/-! ## Instructions and CPU steps -/

theorem State.Inv.exec {s t : State} (hs : s.Inv) {i : Instr} (h : exec i s = .next t) : t.Inv := by
  cases exec_effect h with
  | computes h => exact hs.of_guarded_eq (by rw [h]; rfl)
  | loads a sz h => exact (hs.memRead a sz).of_guarded_eq (by rw [h]; rfl)
  | stores a sz v h => exact (hs.memWrite a sz v).of_guarded_eq (by rw [h]; rfl)
  | writesSystem sb ra hi h => exact hs.of_guarded_eq (by rw [h]; rfl)
  | writesControl hi h => exact hs.of_guarded_eq (by rw [h]; rfl)

theorem State.Inv.cpuStep {s t : State} (hs : s.Inv) (h : s.cpuStep = .next t) : t.Inv := by
  rcases cpuStep_cases h with ⟨-, rfl⟩ | ⟨-, i, u, -, hu, rfl⟩ | ⟨-, e, -, rfl⟩
  · exact hs
  · exact ((hs.memRead s.pc .word).exec hu).countStep
  · exact ((hs.memRead s.pc .word).enter _).countStep

/-- A CPU step is no work of the engine (R521). -/
theorem cpuStep_cyclesRemaining {s t : State} (h : s.cpuStep = .next t) : t.cyclesRemaining = s.cyclesRemaining := by
  rcases cpuStep_cases h with ⟨-, rfl⟩ | ⟨-, i, u, -, hu, rfl⟩ | ⟨-, e, -, rfl⟩
  · rfl
  · obtain ⟨hu, -, -⟩ := instructionsLeaveTheRest i _ _ hu
    rw [State.countStep_cyclesRemaining, hu]
    exact s.memRead_cyclesRemaining s.pc .word
  · rw [State.countStep_cyclesRemaining, State.enter_cyclesRemaining]
    exact s.memRead_cyclesRemaining s.pc .word

/-! ## The engine's units -/

/-- The slice falls by 4 and is refilled before it reaches 0 (R505, R506). -/
theorem State.Inv.chargeSlice {s : State} (hs : s.Inv) : s.chargeSlice.Inv := by
  obtain ⟨-, hmax, hmod⟩ := hs.counters.slice
  simp only [Config.cyclesPerSlice, Config.cyclesPerInstruction] at hmax hmod
  unfold State.chargeSlice
  dsimp only
  split
  · exact (hs.setSlice (by decide)).tick _
  · next hpos =>
    refine hs.setSlice ?_
    simp only [Config.cyclesPerSlice, Config.cyclesPerInstruction] at hpos ⊢
    omega

/-- A frame's cycles are a multiple of 4, so those left before an iteration pay for it (R505). -/
theorem State.Inv.chargeFrame {s : State} (hs : s.Inv) {c : Int} (hc : s.cyclesRemaining = some c) (hpos : 0 < c) :
    (s.chargeFrame c).Inv := by
  obtain ⟨-, hmax, hmod⟩ := hs.counters.frame c hc
  have hopen : s.cyclesRemaining ≠ none := by simp [hc]
  refine hs.setFrame (not_not.1 fun hm => hopen (hs.counters.idle hm)) (hs.vblank hopen) ?_
  simp only [Config.cyclesPerFrame, Config.cyclesPerInstruction] at hmax hmod ⊢
  omega

theorem Vdu.StatusOk.clearVblank {v : Vdu} (h : v.StatusOk) : v.clearVblank.status = 0#16 := by
  rcases h with h | h <;> simp [Vdu.clearVblank, h]

theorem Vdu.StatusOk.setVblank {v : Vdu} (h : v.StatusOk) : v.setVblank.status = 1#16 := by
  rcases h with h | h <;> simp [Vdu.setVblank, h]

theorem State.Inv.beginFrame {s : State} (hs : s.Inv) (hm : s.mode = .running) : s.beginFrame.Inv := by
  have hst := hs.vduStatus.clearVblank
  have hvdu : (s.setVdu s.vdu.clearVblank).Inv := hs.setVdu ⟨hs.pixels.wf, hs.pixels.inside⟩ (.inl hst) fun _ => hst
  exact hvdu.setFrame (c := Config.cyclesPerFrame) hm hst (by decide)

theorem setPixel_mem (px : Memory) (i : Nat) (p : Pixel) (c : Host.Cell) (h : c ∈ setPixel px i p) :
    (4 * i ≤ c.1 ∧ c.1 < 4 * i + 4) ∨ c ∈ px := by
  have write_mem {px : Memory} {k : Nat} {v : Byte} (hk : k < 4) (h : c ∈ px.write (4 * i + k) v) :
      (4 * i ≤ c.1 ∧ c.1 < 4 * i + 4) ∨ c ∈ px :=
    (Memory.write_mem _ _ _ _ h).imp_left fun e => by subst e; dsimp only; omega
  refine (write_mem (by decide) h).elim .inl fun h => (write_mem (by decide) h).elim .inl fun h => ?_
  exact (write_mem (by decide) h).elim .inl fun h => write_mem (k := 0) (by decide) h

theorem wf_setPixel (px : Memory) (i : Nat) (p : Pixel) (h : px.wf) : (setPixel px i p).wf :=
  Memory.wf_write _ _ _ (Memory.wf_write _ _ _ (Memory.wf_write _ _ _ (Memory.wf_write _ _ _ h)))

/-- Scan-out writes the bytes of its n pixels alone (R480). -/
theorem scanOut_mem (f : Config.VduFormat) (m : Memory) (base n : Nat) (px : Memory) (c : Host.Cell) (h : c ∈ scanOut f m base n px) :
    c.1 < 4 * n ∨ c ∈ px := by
  induction n with
  | zero => exact .inr h
  | succ n ih =>
    rcases setPixel_mem _ _ _ _ h with ⟨-, hlt⟩ | h
    · exact .inl hlt
    · exact (ih h).imp_left fun hlt => by omega

theorem wf_scanOut (f : Config.VduFormat) (m : Memory) (base n : Nat) (px : Memory) (h : px.wf) : (scanOut f m base n px).wf := by
  induction n with
  | zero => exact h
  | succ n ih => exact wf_setPixel _ _ _ ih

theorem Vdu.PixelsOk.scanOut {v : Vdu} (hv : v.PixelsOk) (f : Config.VduFormat) (m : Memory) (base : Nat) :
    ({ v with pixels := scanOut f m base (Config.vduW * Config.vduH) v.pixels } : Vdu).PixelsOk where
  wf := wf_scanOut f m base _ _ hv.wf
  inside c hc := (scanOut_mem f m base _ _ c hc).elim id (hv.inside c)

/-- A rendered picture sets vblank, which only a state outside a frame may show (R480, R482). -/
theorem State.Inv.showPixels {s : State} (hs : s.Inv) (hc : s.cyclesRemaining = none) {px : Memory}
    (hpx : ({ s.vdu with pixels := px } : Vdu).PixelsOk) : (s.setVdu { s.vdu with pixels := px }.setVblank).Inv :=
  have hst : ({ s.vdu with pixels := px } : Vdu).StatusOk := hs.vduStatus
  hs.setVdu ⟨hpx.wf, hpx.inside⟩ (.inr hst.setVblank) fun h => absurd hc h

theorem State.Inv.render {s : State} (hs : s.Inv) (hc : s.cyclesRemaining = none) : s.render.Inv := by
  unfold State.render State.renderWith
  dsimp only
  split
  · exact hs.setVdu_registers rfl rfl
  · exact hs.setVdu_registers rfl rfl
  · next b hb =>
    split
    · exact (hs.showPixels hc (hs.pixels.scanOut _ _ _)).trigger _
    · exact hs.setVdu_registers rfl rfl

theorem State.Inv.endFrame {s : State} (hs : s.Inv) : s.endFrame.Inv := by
  have hu := (hs.leaveFrame s.mode (s.frameCounter + 1)).trigger Config.irqVblank
  unfold State.endFrame
  dsimp only
  split
  · exact hu.render (by simp)
  · exact hu

/-! ## The invariant at reset and along every step -/

/-- Settles O54: nothing is stored, so only the devices and the counters have to be looked at. -/
theorem invariantHoldsAtReset : Obligations.InvariantHoldsAtReset where
  storage := ⟨wf_reset, fun _ h => absurd h List.not_mem_nil⟩
  pixels := ⟨wf_reset, fun _ h => absurd h List.not_mem_nil⟩
  uart := ⟨rfl, rfl⟩
  vduStatus := .inl rfl
  counters := ⟨by decide, fun _ h => by simp [State.reset] at h, fun _ => rfl, rfl⟩
  vblank h := absurd rfl h

/-- Settles O55: each unit of the engine's work keeps the invariant. -/
theorem invariantKeptByEveryStep : Obligations.InvariantKeptByEveryStep := by
  intro s t hs h
  rcases step_cases h with ⟨-, u, hu, rfl⟩ | ⟨hm, -, rfl⟩ | ⟨c, -, -, -, -, rfl⟩ | ⟨c, -, hc, hpos, -, u, hu, rfl⟩ | ⟨c, -, -, -, rfl⟩
    | ⟨-, -, rfl⟩
  · exact (hs.cpuStep hu).chargeSlice
  · exact hs.beginFrame hm
  · exact hs.leaveFrame .paused s.frameCounter
  · exact ((hs.cpuStep hu).chargeFrame ((cpuStep_cyclesRemaining hu).trans hc) hpos).chargeSlice
  · exact hs.endFrame
  · exact hs

end Sys2Proof.Machine
end

section
/-!
PROOFS. Memory (spec/20_memory.md): addresses and offsets in integers, what an access takes from its address (R66, R70), storage as little-endian
numbers (R65, R67), the lanes of an I/O word (R71, R72), that every step completes, and what every step keeps of storage and the timer block.
-/

namespace Sys2Proof.Machine

open Claims

/-! ## Addresses and offsets in integers -/

theorem segmentOf_toNat (addr : Word) : (segmentOf addr).toNat = addr.toNat / 2 ^ 24 := by
  rw [segmentOf, BitVec.extractLsb'_toNat, Nat.shiftRight_eq_div_pow]
  omega

theorem offsetOf_toNat (addr : Word) : (offsetOf addr).toNat = addr.toNat % 2 ^ 24 := by
  rw [offsetOf, BitVec.extractLsb'_toNat, Nat.shiftRight_zero]

theorem wordIndex_toNat (off : BitVec 24) : (wordIndex off).toNat = off.toNat / 4 % 2 ^ 16 := by
  rw [wordIndex, BitVec.extractLsb'_toNat, Nat.shiftRight_eq_div_pow]

/-- Clearing the n lowest bits rounds down to a multiple of 2^n. -/
theorem toNat_and_allOnes_shiftLeft {w : Nat} (x : BitVec w) (n : Nat) :
    (x &&& BitVec.allOnes w <<< n).toNat = x.toNat / 2 ^ n * 2 ^ n := by
  have hclear : x &&& BitVec.allOnes w <<< n = x >>> n <<< n := by
    ext i hi
    by_cases h : i < n
    · simp [h]
    · simp [h, Nat.add_sub_cancel' (not_lt.1 h), BitVec.getLsbD_eq_getElem hi]
  have hle := Nat.div_mul_le_self x.toNat (2 ^ n)
  rw [hclear, BitVec.toNat_shiftLeft, BitVec.toNat_ushiftRight, Nat.shiftLeft_eq, Nat.shiftRight_eq_div_pow,
    Nat.mod_eq_of_lt (hle.trans_lt x.isLt)]

theorem Size.bytes_pos (sz : Size) : 0 < sz.bytes := by cases sz <;> decide

theorem Size.bytes_dvd_four (sz : Size) : sz.bytes ∣ 4 := by cases sz <;> decide

/-- R66: the offset is rounded down to a multiple of the width. -/
theorem alignOffset_toNat (off : BitVec 24) (sz : Size) : (alignOffset off sz).toNat = off.toNat / sz.bytes * sz.bytes := by
  cases sz with
  | byte => simp [alignOffset, Size.bytes]
  | half => exact toNat_and_allOnes_shiftLeft off 1
  | word => exact toNat_and_allOnes_shiftLeft off 2

/-- R66, R71: a sub-word access stands in its word at the multiple of the width that contains it. -/
theorem laneShift_eq (off : BitVec 24) (sz : Size) : laneShift off sz = 8 * (off.toNat % 4 / sz.bytes * sz.bytes) := by
  have hlow : (off &&& 3#24).toNat = off.toNat % 4 := Nat.and_two_pow_sub_one_eq_mod off.toNat 2
  cases sz with
  | byte => simp [laneShift, Size.bytes, hlow]
  | half =>
    have htwo : off &&& 2#24 = (off &&& 3#24) &&& BitVec.allOnes 24 <<< 1 := by rw [BitVec.and_assoc]; rfl
    rw [laneShift, htwo, toNat_and_allOnes_shiftLeft, hlow]
    rfl
  | word => simp [laneShift, Size.bytes]

/-! ## What an access depends on -/

theorem State.memRead_of_unmapped {addr : Word} (h : Config.regionOf (segmentOf addr) = none) (s : State) (sz : Size) :
    s.memRead addr sz = (0#32, s.countUnmapped) := by
  rw [State.memRead, h]

theorem State.memWrite_of_unmapped {addr : Word} (h : Config.regionOf (segmentOf addr) = none) (s : State) (sz : Size) (v : Word) :
    s.memWrite addr sz v = s.countUnmapped := by
  rw [State.memWrite, h]

theorem State.memRead_of_backing {addr : Word} {b : Config.Backing} (h : Config.regionOf (segmentOf addr) = some (.backing b)) (s : State)
    (sz : Size) : s.memRead addr sz = (backingRead b s.mem (offsetOf addr) sz, s) := by
  rw [State.memRead, h]

theorem State.memWrite_of_backing {addr : Word} {b : Config.Backing} (h : Config.regionOf (segmentOf addr) = some (.backing b)) (s : State)
    (sz : Size) (v : Word) : s.memWrite addr sz v = s.setMem (backingWrite b s.mem (offsetOf addr) sz v) := by
  rw [State.memWrite, h]

theorem State.memRead_of_mmio {addr : Word} (h : Config.regionOf (segmentOf addr) = some .mmio) (s : State) (sz : Size) :
    s.memRead addr sz = mmioLoad (offsetOf addr) sz s := by
  rw [State.memRead, h]

theorem State.memWrite_of_mmio {addr : Word} (h : Config.regionOf (segmentOf addr) = some .mmio) (s : State) (sz : Size) (v : Word) :
    s.memWrite addr sz v = mmioStore (offsetOf addr) sz v s := by
  rw [State.memWrite, h]

theorem regionOf_eq_none {seg : BitVec 8} (h8 : seg.toNat ≠ 0x08) (h9E : seg.toNat ≠ 0x9E) (hA0 : seg.toNat ≠ 0xA0) :
    Config.regionOf seg = none := by
  unfold Config.regionOf
  split <;> simp_all

/-- R61, by the address instead of its segment. -/
theorem segmentOf_eq {addr : Word} {n : Nat} (h : addr.toNat / 2 ^ 24 = n) : segmentOf addr = BitVec.ofNat 8 n := by
  apply BitVec.eq_of_toNat_eq
  rw [← h, ← segmentOf_toNat, BitVec.ofNat_toNat, BitVec.setWidth_eq]

theorem regionOf_io {addr : Word} (h : addr.toNat / 2 ^ 24 = 0x08) : Config.regionOf (segmentOf addr) = some .mmio := by
  rw [segmentOf_eq h]; rfl

theorem regionOf_flash {addr : Word} (h : addr.toNat / 2 ^ 24 = 0x9E) :
    Config.regionOf (segmentOf addr) = some (.backing Config.flash) := by
  rw [segmentOf_eq h]; rfl

theorem regionOf_dram {addr : Word} (h : addr.toNat / 2 ^ 24 = 0xA0) :
    Config.regionOf (segmentOf addr) = some (.backing Config.dram) := by
  rw [segmentOf_eq h]; rfl

theorem backingPlace_congr {off off' : BitVec 24} {sz : Size} (h : alignOffset off sz = alignOffset off' sz) (b : Config.Backing) :
    backingPlace b off sz = backingPlace b off' sz := by
  rw [backingPlace, backingPlace, h]

theorem mmioLoad_congr {off off' : BitVec 24} {sz : Size} (hw : wordIndex off = wordIndex off') (hl : laneShift off sz = laneShift off' sz)
    (s : State) : mmioLoad off sz s = mmioLoad off' sz s := by
  rw [mmioLoad, mmioLoad, hw, hl]

theorem mmioStore_congr {off off' : BitVec 24} {sz : Size} (hw : wordIndex off = wordIndex off') (hl : laneShift off sz = laneShift off' sz)
    (v : Word) (s : State) : mmioStore off sz v s = mmioStore off' sz v s := by
  have hmerge (old : Word) : mergeLane old off sz v = mergeLane old off' sz v := by rw [mergeLane, mergeLane, hl]
  unfold mmioStore
  rw [hw]
  cases sz with
  | word => rfl
  | half | byte => dsimp only; rw [hmerge]

/-! ## The containing unit (R66) -/

theorem wordIndex_alignOffset (off : BitVec 24) (sz : Size) : wordIndex (alignOffset off sz) = wordIndex off := by
  apply BitVec.eq_of_toNat_eq
  rw [wordIndex_toNat, wordIndex_toNat, alignOffset_toNat]
  cases sz <;> simp only [Size.bytes] <;> omega

theorem laneShift_alignOffset (off : BitVec 24) (sz : Size) : laneShift (alignOffset off sz) sz = laneShift off sz := by
  rw [laneShift_eq, laneShift_eq, alignOffset_toNat]
  cases sz <;> simp only [Size.bytes] <;> omega

/-- The aligned offset says all that an access takes from its offset. -/
theorem wordIndex_laneShift_of_alignOffset {off off' : BitVec 24} {sz : Size} (h : alignOffset off sz = alignOffset off' sz) :
    wordIndex off = wordIndex off' ∧ laneShift off sz = laneShift off' sz := by
  rw [← wordIndex_alignOffset off sz, ← laneShift_alignOffset off sz, h, wordIndex_alignOffset, laneShift_alignOffset]
  exact ⟨rfl, rfl⟩

theorem State.memRead_congr {addr addr' : Word} {sz : Size} (hseg : segmentOf addr = segmentOf addr')
    (hal : alignOffset (offsetOf addr) sz = alignOffset (offsetOf addr') sz) (s : State) : s.memRead addr sz = s.memRead addr' sz := by
  obtain ⟨hword, hlane⟩ := wordIndex_laneShift_of_alignOffset hal
  unfold State.memRead
  rw [hseg]
  split
  · rfl
  · rw [backingRead, backingRead, backingPlace_congr hal]
  · exact mmioLoad_congr hword hlane s

theorem State.memWrite_congr {addr addr' : Word} {sz : Size} (hseg : segmentOf addr = segmentOf addr')
    (hal : alignOffset (offsetOf addr) sz = alignOffset (offsetOf addr') sz) (s : State) (v : Word) :
    s.memWrite addr sz v = s.memWrite addr' sz v := by
  obtain ⟨hword, hlane⟩ := wordIndex_laneShift_of_alignOffset hal
  unfold State.memWrite
  rw [hseg]
  split
  · rfl
  · rw [backingWrite, backingWrite, backingStorePlace, backingStorePlace, backingPlace_congr hal]
  · exact mmioStore_congr hword hlane v s

/-- The containing unit of an access: its address rounded down to a multiple of the width. -/
def unitAddress (addr : Word) (sz : Size) : Word := BitVec.ofNat 32 (addr.toNat / sz.bytes * sz.bytes)

theorem unitAddress_toNat (addr : Word) (sz : Size) : (unitAddress addr sz).toNat = addr.toNat / sz.bytes * sz.bytes := by
  rw [unitAddress, BitVec.toNat_ofNat, Nat.mod_eq_of_lt ((Nat.div_mul_le_self _ _).trans_lt addr.isLt)]

theorem segmentOf_unitAddress (addr : Word) (sz : Size) : segmentOf (unitAddress addr sz) = segmentOf addr := by
  apply BitVec.eq_of_toNat_eq
  rw [segmentOf_toNat, segmentOf_toNat, unitAddress_toNat]
  cases sz <;> simp only [Size.bytes] <;> omega

theorem alignOffset_unitAddress (addr : Word) (sz : Size) :
    alignOffset (offsetOf (unitAddress addr sz)) sz = alignOffset (offsetOf addr) sz := by
  apply BitVec.eq_of_toNat_eq
  rw [alignOffset_toNat, alignOffset_toNat, offsetOf_toNat, offsetOf_toNat, unitAddress_toNat]
  cases sz <;> simp only [Size.bytes] <;> omega

theorem State.memRead_unitAddress (s : State) (addr : Word) (sz : Size) : s.memRead (unitAddress addr sz) sz = s.memRead addr sz :=
  State.memRead_congr (segmentOf_unitAddress addr sz) (alignOffset_unitAddress addr sz) s

theorem State.memWrite_unitAddress (s : State) (addr : Word) (sz : Size) (v : Word) :
    s.memWrite (unitAddress addr sz) sz v = s.memWrite addr sz v :=
  State.memWrite_congr (segmentOf_unitAddress addr sz) (alignOffset_unitAddress addr sz) s v

/-- Settles O25: the containing unit has the segment and the aligned offset of the address. -/
theorem misalignedIsTheContainingUnit : Obligations.MisalignedIsTheContainingUnit := fun s addr v sz =>
  ⟨(s.memRead_unitAddress addr sz).symm, (s.memWrite_unitAddress addr sz v).symm, rfl, (s.memRead_unitAddress s.pc .word).symm⟩

/-! ## Unmapped segments (R63) -/

theorem decodeSlot_zero (pc1 t : Bool) : decodeSlot 0#32 pc1 t = .ok .nop := rfl

/-- Settles O24: no other segment has a region, and the slot 0 is `nop`. -/
theorem unmappedSegmentsReadZeroAndCount : Obligations.UnmappedSegmentsReadZeroAndCount := by
  intro s addr v sz h8 h9E hA0
  rw [← segmentOf_toNat] at h8 h9E hA0
  have hnone := regionOf_eq_none h8 h9E hA0
  refine ⟨s.memRead_of_unmapped hnone sz, s.memWrite_of_unmapped hnone sz v, fun pc1 t => ?_⟩
  rw [s.memRead_of_unmapped hnone .word]
  exact decodeSlot_zero pc1 t

/-! ## The mirrors of the I/O image (R70, R86) -/

/-- Two offsets at the same place of the 256 KiB image name the same word and the same lane of it. -/
theorem wordIndex_laneShift_of_mirror {off off' : BitVec 24} (h : off.toNat % 0x40000 = off'.toNat % 0x40000) (sz : Size) :
    wordIndex off = wordIndex off' ∧ laneShift off sz = laneShift off' sz := by
  constructor
  · apply BitVec.eq_of_toNat_eq
    rw [wordIndex_toNat, wordIndex_toNat]
    omega
  · have hlow : off.toNat % 4 = off'.toNat % 4 := by omega
    rw [laneShift_eq, laneShift_eq, hlow]

/-- Settles O29: the mirror of an address is in the same segment, at the same place of the image. -/
theorem ioImageIsMirrored : Obligations.IoImageIsMirrored := by
  intro s addr v sz k hseg hin other
  have hother : other.toNat = addr.toNat + k * 0x40000 := by
    rw [BitVec.toNat_ofNat, Nat.mod_eq_of_lt (by omega)]
  have hio : Config.regionOf (segmentOf addr) = some .mmio := regionOf_io hseg
  have hio' : Config.regionOf (segmentOf other) = some .mmio := regionOf_io (by omega)
  have hplace : (offsetOf other).toNat % 0x40000 = (offsetOf addr).toNat % 0x40000 := by
    rw [offsetOf_toNat, offsetOf_toNat, hother]
    omega
  obtain ⟨hword, hlane⟩ := wordIndex_laneShift_of_mirror hplace sz
  rw [s.memRead_of_mmio hio', s.memRead_of_mmio hio, s.memWrite_of_mmio hio', s.memWrite_of_mmio hio]
  exact ⟨mmioLoad_congr hword hlane s, mmioStore_congr hword hlane v s⟩

/-! ## Totality -/

theorem exec_completes (i : Instr) (s : State) : ∃ t, exec i s = .next t := by
  cases i
  case trapCc c =>
    rw [exec_trapCc, execTrapCc]
    split
    · exact ⟨_, raise_spec s _⟩
    · exact ⟨_, done32_spec s⟩
  all_goals exact ⟨_, rfl⟩

theorem cpuStep_completes (s : State) : ∃ t, s.cpuStep = .next t := by
  unfold State.cpuStep State.execSlot
  split
  · exact ⟨s, rfl⟩
  · dsimp only
    split
    · next i _ =>
      obtain ⟨t, ht⟩ := exec_completes i s.fetch.2
      exact ⟨t.countStep, by rw [ht, andThen_next]⟩
    · exact ⟨_, rfl⟩

/-- Settles O52: a CPU step completes, and every other unit of the engine's work is a function of the state. -/
theorem everyStepCompletes : Obligations.EveryStepCompletes := by
  intro s
  obtain ⟨u, hu⟩ := cpuStep_completes s
  unfold step State.engineUnit
  split
  · exact ⟨_, by rw [State.singleStep, hu, andThen_next]⟩
  · split
    · exact ⟨_, rfl⟩
    · split
      · unfold State.iteration
        split
        · exact ⟨_, rfl⟩
        · exact ⟨_, by rw [hu, andThen_next]⟩
      · exact ⟨_, rfl⟩
  all_goals exact ⟨s, rfl⟩

/-! ## Little-endian numbers (R65) -/

/-- The number n bytes make, the lowest address first. -/
def Memory.littleEndian (m : Memory) (a n : Nat) : Nat := ((List.range n).map fun k => (m.read (a + k)).toNat * 256 ^ k).sum

theorem Memory.littleEndian_succ (m : Memory) (a n : Nat) :
    m.littleEndian a (n + 1) = m.littleEndian a n + (m.read (a + n)).toNat * 256 ^ n := by
  simp [Memory.littleEndian, List.range_succ]

theorem Memory.littleEndian_lt (m : Memory) (a n : Nat) : m.littleEndian a n < 256 ^ n := by
  induction n with
  | zero => simp [Memory.littleEndian]
  | succ n ih =>
    have hbyte : (m.read (a + n)).toNat * 256 ^ n ≤ 255 * 256 ^ n := Nat.mul_le_mul_right _ (by omega)
    rw [Memory.littleEndian_succ, Nat.pow_succ]
    omega

/-- Up to four bytes fit a word. -/
theorem Memory.readLE_toNat (m : Memory) (a n : Nat) (hn : n ≤ 4) : (m.readLE a n).toNat = m.littleEndian a n := by
  induction n with
  | zero => rfl
  | succ n ih =>
    have hpow : 256 ^ n = 2 ^ (8 * n) := by rw [pow_mul]; rfl
    have hlow : m.littleEndian a n < 2 ^ (8 * n) := hpow ▸ m.littleEndian_lt a n
    have hplace : (place 32 (m.read (a + n)) (8 * n)).toNat = (m.read (a + n)).toNat <<< (8 * n) := by
      have hfit : (m.read (a + n)).toNat <<< (8 * n) < 2 ^ 32 := by
        rw [Nat.shiftLeft_eq]
        calc (m.read (a + n)).toNat * 2 ^ (8 * n) < 2 ^ 8 * 2 ^ (8 * n) := Nat.mul_lt_mul_of_pos_right (BitVec.isLt _) (by positivity)
          _ = 2 ^ (8 + 8 * n) := (pow_add ..).symm
          _ ≤ 2 ^ 32 := Nat.pow_le_pow_right (by decide) (by omega)
      rw [place, BitVec.toNat_shiftLeft, BitVec.toNat_setWidth_of_le (by decide), Nat.mod_eq_of_lt hfit]
    rw [Memory.readLE, BitVec.toNat_or, ih (by omega), hplace, Nat.or_comm, ← Nat.shiftLeft_add_eq_or_of_lt hlow, Nat.shiftLeft_eq,
      Memory.littleEndian_succ, hpow, Nat.add_comm]

/-! ## Inside and beyond a backing array (R67) -/

/-- Below the size of a backing array of whole units, an access stands at the unit that contains its offset. -/
theorem backingPlace_of_lt {b : Config.Backing} {off : BitVec 24} {sz : Size} (hsize : sz.bytes ∣ b.size) (h : off.toNat < b.size) :
    backingPlace b off sz = some (b.base + off.toNat / sz.bytes * sz.bytes) := by
  obtain ⟨units, hunits⟩ := hsize
  have hunit : off.toNat / sz.bytes < units := Nat.div_lt_of_lt_mul (hunits ▸ h)
  have hend : off.toNat / sz.bytes * sz.bytes + sz.bytes ≤ b.size := by
    rw [hunits, ← Nat.succ_mul, Nat.mul_comm sz.bytes]
    exact Nat.mul_le_mul_right _ hunit
  rw [backingPlace, alignOffset_toNat, if_pos hend]

theorem backingPlace_of_ge {b : Config.Backing} {off : BitVec 24} {sz : Size} (h : b.size ≤ off.toNat) : backingPlace b off sz = none := by
  have hend : ¬ off.toNat / sz.bytes * sz.bytes + sz.bytes ≤ b.size := by
    have hunit := Nat.lt_div_mul_add (a := off.toNat) sz.bytes_pos
    omega
  rw [backingPlace, alignOffset_toNat, if_neg hend]

theorem backingWrite_of_readOnly {b : Config.Backing} (hb : b.readOnly = true) (m : Memory) (off : BitVec 24) (sz : Size) (v : Word) :
    backingWrite b m off sz v = m := by
  rw [backingWrite, backingStorePlace, if_pos hb]

/-- A read inside a backing array whose first byte starts a segment is the number its unit's bytes make. -/
theorem State.memRead_inside {addr : Word} {b : Config.Backing} (hreg : Config.regionOf (segmentOf addr) = some (.backing b))
    (hbase : b.base = addr.toNat / 2 ^ 24 * 2 ^ 24) (hdvd : 4 ∣ b.size) (hin : addr.toNat % 2 ^ 24 < b.size) (s : State) (sz : Size) :
    (s.memRead addr sz).2 = s ∧ (s.memRead addr sz).1.toNat = s.mem.littleEndian (addr.toNat / sz.bytes * sz.bytes) sz.bytes := by
  have hplace : backingPlace b (offsetOf addr) sz = some (addr.toNat / sz.bytes * sz.bytes) := by
    rw [backingPlace_of_lt (sz.bytes_dvd_four.trans hdvd) (by rwa [offsetOf_toNat]), offsetOf_toNat, hbase]
    cases sz <;> simp only [Size.bytes, Option.some.injEq] <;> omega
  rw [s.memRead_of_backing hreg, backingRead, hplace]
  exact ⟨rfl, s.mem.readLE_toNat _ _ (by cases sz <;> decide)⟩

/-- Past the end of flash there is no place, and a store to flash is dropped anyway (R67, R68). -/
theorem State.flash_beyond {addr : Word} (hseg : addr.toNat / 2 ^ 24 = 0x9E) (h : 0x800000 ≤ addr.toNat % 2 ^ 24) (s : State) (sz : Size)
    (v : Word) : s.memRead addr sz = (0#32, s) ∧ s.memWrite addr sz v = s := by
  have hreg := regionOf_flash hseg
  rw [s.memRead_of_backing hreg, s.memWrite_of_backing hreg, backingRead, backingPlace_of_ge (by rwa [offsetOf_toNat]),
    backingWrite_of_readOnly rfl]
  exact ⟨rfl, rfl⟩

/-- Settles O26: flash and DRAM start their segments and hold whole words, so the unit of an address inside lies inside. -/
theorem backingReadsAreLittleEndian : Obligations.BackingReadsAreLittleEndian := by
  intro s addr v sz
  refine ⟨fun hin => ?_, fun hpast => State.flash_beyond (by omega) (by omega) s sz v⟩
  rcases hin with hflash | hdram
  · have hseg : addr.toNat / 2 ^ 24 = 0x9E := by omega
    exact State.memRead_inside (regionOf_flash hseg) (by rw [hseg]; rfl) (by decide) (by simp only [Config.flash]; omega) s sz
  · have hseg : addr.toNat / 2 ^ 24 = 0xA0 := by omega
    exact State.memRead_inside (regionOf_dram hseg) (by rw [hseg]; rfl) (by decide) (by simp only [Config.dram]; omega) s sz

/-! ## Storage reads back (P4) -/

/-- The four bytes of a word written read back as the word. -/
theorem Memory.readLE_writeLE_four (m : Memory) (a : Nat) (v : Word) (hm : m.wf) : (m.writeLE a v 4).readLE a 4 = v := by
  have hbyte (k : Nat) (hk : k < 4) : ((m.writeLE a v 4).read (a + k)).toNat = v.toNat / 2 ^ (8 * k) % 256 := by
    rw [m.read_writeLE_inside a v 4 k hm hk, BitVec.extractLsb'_toNat, Nat.shiftRight_eq_div_pow]
  apply BitVec.eq_of_toNat_eq
  rw [Memory.readLE_toNat _ _ _ (by decide)]
  simp only [Memory.littleEndian_succ, hbyte, Nat.reduceLT, Nat.reduceMul, Nat.reducePow]
  have hnone : (m.writeLE a v 4).littleEndian a 0 = 0 := rfl
  omega

theorem Memory.readLE_nil (a n : Nat) : Memory.readLE [] a n = 0#32 := by
  induction n with
  | zero => rfl
  | succ n ih => simp [Memory.readLE, ih, Memory.read, Memory.fill, place]

theorem Memory.readLE_one (m : Memory) (a : Nat) : m.readLE a 1 = (m.read a).setWidth 32 := by
  simp [Memory.readLE, place]

theorem backingRead_of_place {b : Config.Backing} {off : BitVec 24} {sz : Size} {a : Nat} (h : backingPlace b off sz = some a) (m : Memory) :
    backingRead b m off sz = m.readLE a sz.bytes := by
  rw [backingRead, h]

theorem backingWrite_of_place {b : Config.Backing} (hb : b.readOnly = false) {off : BitVec 24} {sz : Size} {a : Nat}
    (h : backingPlace b off sz = some a) (m : Memory) (v : Word) : backingWrite b m off sz v = m.writeLE a v sz.bytes := by
  simp only [backingWrite, backingStorePlace, hb, h, Bool.false_eq_true, if_false]

/-- P4: a word written to a writable backing array reads back, whole and byte by byte. -/
theorem backingRead_backingWrite (b : Config.Backing) (m : Memory) (off : BitVec 24) (w : Word) (hm : m.wf) (hb : b.readOnly = false)
    (hsize : b.size % 4 = 0) (hoff : off.toNat % 4 = 0) (hin : off.toNat < b.size) :
    backingRead b (backingWrite b m off .word w) off .word = w
      ∧ ∀ k : BitVec 24, k.toNat < 4 →
        backingRead b (backingWrite b m off .word w) (off + k) .byte = (w.extractLsb' (8 * k.toNat) 8).setWidth 32 := by
  have hword : backingPlace b off .word = some (b.base + off.toNat) := by
    rw [backingPlace_of_lt (Nat.dvd_of_mod_eq_zero hsize) hin]
    simp only [Size.bytes, Option.some.injEq]
    omega
  rw [backingWrite_of_place hb hword]
  refine ⟨(backingRead_of_place hword _).trans (m.readLE_writeLE_four _ w hm), fun k hk => ?_⟩
  have hsum : (off + k).toNat = off.toNat + k.toNat := by
    rw [BitVec.toNat_add, Nat.mod_eq_of_lt (by omega)]
  have hbyte : backingPlace b (off + k) .byte = some (b.base + off.toNat + k.toNat) := by
    rw [backingPlace_of_lt (one_dvd _) (by omega), hsum]
    simp only [Size.bytes, Option.some.injEq]
    omega
  rw [backingRead_of_place hbyte]
  exact (Memory.readLE_one _ _).trans (congrArg _ (m.read_writeLE_inside _ w 4 _ hm hk))

/-! ## The lanes of an I/O word (P5) -/

theorem getLsbD_byteMask (i : Nat) : (0xFF#32).getLsbD i = decide (i < 8) := by
  have hmask : 0xFF#32 = (BitVec.allOnes 8).setWidth 32 := rfl
  rw [hmask, BitVec.getLsbD_setWidth, BitVec.getLsbD_allOnes]
  by_cases h : i < 8
  · simp [h]; omega
  · simp [h]

/-- A byte merged into a word stands at its lane, bit by bit. -/
theorem getLsbD_mergeLane_byte (old : Word) (off : BitVec 24) (v : Word) (i : Nat) (hi : i < 32) :
    (mergeLane old off .byte v).getLsbD i = if i / 8 = off.toNat % 4 then v.getLsbD (i % 8) else old.getLsbD i := by
  have hlane : laneShift off .byte = 8 * (off.toNat % 4) := by simp [laneShift_eq, Size.bytes]
  simp only [mergeLane, sizeMask, hlane, BitVec.getLsbD_or, BitVec.getLsbD_and, BitVec.getLsbD_not, BitVec.getLsbD_shiftLeft,
    getLsbD_byteMask, hi, decide_true, Bool.true_and]
  split
  · next h =>
    have hge : ¬ i < 8 * (off.toNat % 4) := by omega
    have hbit : i - 8 * (off.toNat % 4) = i % 8 := by omega
    simp [hge, hbit, Nat.mod_lt]
  · next h =>
    by_cases hlt : i < 8 * (off.toNat % 4)
    · simp [hlt]
    · have hge : ¬ i - 8 * (off.toNat % 4) < 8 := by omega
      simp [hge]

/-- R71: the merged word is the old one with the addressed byte replaced. -/
theorem extractLsb'_mergeLane_byte (old : Word) (off : BitVec 24) (v : Word) (k : Nat) (hk : k < 4) :
    (mergeLane old off .byte v).extractLsb' (8 * k) 8
      = if k = off.toNat % 4 then v.extractLsb' 0 8 else old.extractLsb' (8 * k) 8 := by
  apply BitVec.eq_of_getLsbD_eq
  intro i hi
  have hlane : (8 * k + i) / 8 = k := by omega
  have hbit : (8 * k + i) % 8 = i := by omega
  rw [BitVec.getLsbD_extractLsb', getLsbD_mergeLane_byte _ _ _ _ (by omega), hlane, hbit]
  split <;> simp [hi]

/-- Settles O27: P4 for any writable backing array, and the merged word for P5. -/
theorem workedMemoryLawsP4P5 : Obligations.WorkedMemoryLawsP4P5 :=
  ⟨fun b m off w hm hb hsize hoff hin _ => backingRead_backingWrite b m off w hm hb hsize hoff hin, fun s off v =>
    ⟨mergeLane (mmioRead (mmioWord (wordIndex off)) s).1 off .byte v, rfl, extractLsb'_mergeLane_byte _ off v⟩⟩

/-! ## Fallback cells (R72) -/

theorem mmioLoad_word (off : BitVec 24) (s : State) : mmioLoad off .word s = mmioRead (mmioWord (wordIndex off)) s := by
  have hall (w : Word) : w &&& 0xFFFFFFFF#32 = w := BitVec.and_allOnes
  simp [mmioLoad, laneShift, sizeMask, hall]

theorem mmioLoad_cell_state {off : BitVec 24} {i : BitVec 16} (h : mmioWord (wordIndex off) = .cell i) (sz : Size) (s : State) :
    (mmioLoad off sz s).2 = s := by
  rw [mmioLoad, h]
  rfl

/-- A store of any width to a cell writes the cell's word. -/
theorem mmioStore_cell {off : BitVec 24} {i : BitVec 16} (h : mmioWord (wordIndex off) = .cell i) (sz : Size) (v : Word) (s : State) :
    ∃ w, mmioStore off sz v s = s.setMem (s.mem.writeLE (cellAddress i) w 4) := by
  unfold mmioStore
  rw [h]
  cases sz with
  | word => exact ⟨v, rfl⟩
  | half | byte => exact ⟨_, rfl⟩

theorem mmioStore_cell_word {off : BitVec 24} {i : BitVec 16} (h : mmioWord (wordIndex off) = .cell i) (v : Word) (s : State) :
    mmioStore off .word v s = s.setMem (s.mem.writeLE (cellAddress i) v 4) := by
  unfold mmioStore
  rw [h]
  rfl

/-- Settles O28: a store of any width to a cell is a write of its four bytes, and a load reads them. -/
theorem fallbackCellsReadBack : Obligations.FallbackCellsReadBack := by
  intro s off v i hcell hwf
  refine ⟨?reset, ?readsBack, fun sz => ⟨mmioLoad_cell_state hcell sz s, ?outside, ?frame⟩⟩
  case reset =>
    rw [mmioLoad_word, hcell]
    exact Memory.readLE_nil (cellAddress i) 4
  case readsBack =>
    rw [mmioLoad_word, mmioStore_cell_word hcell, hcell]
    exact Prod.ext (s.mem.readLE_writeLE_four _ v hwf) rfl
  case outside =>
    intro a ha
    obtain ⟨w, hw⟩ := mmioStore_cell hcell sz v s
    rw [hw]
    exact s.mem.read_writeLE_outside _ a w 4 ha
  case frame =>
    obtain ⟨w, hw⟩ := mmioStore_cell hcell sz v s
    rw [hw]
    rfl

/-! ## What every step keeps of storage and the timer block -/

/-- The fields that, besides a store, only the tick of the timer block can change. -/
def State.stored (s : State) : Memory × TimerBlock := (s.mem, s.timers)

theorem State.trigger_stored (s : State) (n : BitVec 5) : (s.trigger n).stored = s.stored := by simp [State.stored]

/-- Rendering reads storage and writes the VDU alone (R480). -/
theorem State.render_stored (s : State) : s.render.stored = s.stored := by
  unfold State.render State.renderWith
  dsimp only
  split
  · rfl
  · rfl
  · split
    · exact State.trigger_stored _ _
    · rfl

theorem State.endFrame_stored (s : State) : s.endFrame.stored = s.stored := by
  unfold State.endFrame
  dsimp only
  split
  · exact (State.render_stored _).trans (State.trigger_stored _ _)
  · exact State.trigger_stored _ _

theorem exec_keeps {P : Memory × TimerBlock → Prop} (hstore : ∀ s addr sz v, P (State.stored s) → P (s.memWrite addr sz v).stored)
    {i : Instr} {s t : State} (h : exec i s = .next t) (hs : P s.stored) : P t.stored := by
  cases exec_effect h with
  | computes h => rw [h]; exact hs
  | loads a sz h =>
    have hread : t.stored = s.stored := by rw [h]; simp [State.stored]
    rwa [hread]
  | stores a sz v h => rw [h]; exact hstore s a sz v hs
  | writesSystem sb ra hi h => rw [h]; exact hs
  | writesControl hi h => rw [h]; exact hs

theorem cpuStep_keeps {P : Memory × TimerBlock → Prop} (hstore : ∀ s addr sz v, P (State.stored s) → P (s.memWrite addr sz v).stored)
    {s t : State} (h : s.cpuStep = .next t) (hs : P s.stored) : P t.stored := by
  have hfetch : P s.fetch.2.stored := by simpa [State.stored, State.fetch] using hs
  rcases cpuStep_cases h with ⟨-, rfl⟩ | ⟨-, i, u, -, hu, rfl⟩ | ⟨-, e, -, rfl⟩
  · exact hs
  · have hkept : P u.stored := exec_keeps hstore hu hfetch
    exact hkept
  · have henter (c : Cause) : (s.fetch.2.enter c).countStep.stored = s.fetch.2.stored := by simp [State.stored]
    rwa [henter]

theorem chargeSlice_keeps {P : Memory × TimerBlock → Prop} (htick : ∀ s n, P (State.stored s) → P (s.tick n).stored) {s : State}
    (hs : P s.stored) : P s.chargeSlice.stored := by
  unfold State.chargeSlice
  dsimp only
  split
  · exact htick _ _ hs
  · exact hs

/-- What stores and the tick of the timer block keep of storage and the timer channels, every step keeps. -/
theorem step_keeps {P : Memory × TimerBlock → Prop} (hstore : ∀ s addr sz v, P (State.stored s) → P (s.memWrite addr sz v).stored)
    (htick : ∀ s n, P (State.stored s) → P (s.tick n).stored) {s t : State} (h : step s = .next t) (hs : P s.stored) : P t.stored := by
  rcases step_cases h with ⟨-, u, hu, rfl⟩ | ⟨-, -, rfl⟩ | ⟨c, -, -, -, -, rfl⟩ | ⟨c, -, -, -, -, u, hu, rfl⟩ | ⟨c, -, -, -, rfl⟩
    | ⟨-, -, rfl⟩
  · exact chargeSlice_keeps htick (cpuStep_keeps hstore hu hs)
  · exact hs
  · exact hs
  · have hkept : P u.stored := cpuStep_keeps hstore hu hs
    exact chargeSlice_keeps htick hkept
  · rwa [State.endFrame_stored]
  · exact hs

theorem mmioRead_mem_timers (w : MmioWord) (s : State) : (mmioRead w s).2.mem = s.mem ∧ (mmioRead w s).2.timers = s.timers := by
  rcases mmioRead_state w s with h | h <;> rw [h] <;> exact ⟨rfl, rfl⟩

/-- A store of any width to the MMIO region ends in a write of the whole word, before which at most the word was read (R71). -/
theorem mmioStore_eq_mmioWrite (off : BitVec 24) (sz : Size) (v : Word) (s : State) :
    ∃ w u, mmioStore off sz v s = mmioWrite (mmioWord (wordIndex off)) w u ∧ u.mem = s.mem ∧ u.timers = s.timers := by
  cases sz with
  | word => exact ⟨v, s, rfl, rfl, rfl⟩
  | half | byte => exact ⟨_, _, rfl, mmioRead_mem_timers _ s⟩

/-! ## Flash is never written (R68) -/

/-- The fallback cells lie in the first image of the I/O segment, below flash. -/
theorem mmioWrite_flash {a : Nat} (ha : inFlash a) (w : MmioWord) (v : Word) (s : State) : (mmioWrite w v s).mem.read a = s.mem.read a := by
  cases w
  case cell i =>
    have hcell : cellAddress i + 4 ≤ a := by
      have hi := i.isLt
      simp only [cellAddress, Config.ioBase, inFlash] at ha ⊢
      omega
    exact s.mem.read_writeLE_outside _ a v 4 (.inr hcell)
  all_goals rfl

theorem mmioStore_flash {a : Nat} (ha : inFlash a) (off : BitVec 24) (sz : Size) (v : Word) (s : State) :
    (mmioStore off sz v s).mem.read a = s.mem.read a := by
  obtain ⟨w, u, hstore, hmem, -⟩ := mmioStore_eq_mmioWrite off sz v s
  rw [hstore, mmioWrite_flash ha, hmem]

/-- Flash is read-only, and DRAM lies above it. -/
theorem backingWrite_flash {a : Nat} (ha : inFlash a) {b : Config.Backing} (hb : b = Config.flash ∨ b = Config.dram) (m : Memory)
    (off : BitVec 24) (sz : Size) (v : Word) : (backingWrite b m off sz v).read a = m.read a := by
  rcases hb with rfl | rfl
  · rw [backingWrite_of_readOnly rfl]
  · refine read_backingWrite _ _ _ _ _ _ fun p hp => .inl ?_
    have hdram : Config.dram.base ≤ p := by
      have hplace : backingPlace Config.dram off sz = some p := hp
      simp only [backingPlace, Option.ite_none_right_eq_some, Option.some.injEq] at hplace
      omega
    simp only [Config.dram, inFlash] at hdram ha
    omega

theorem State.memWrite_flash {a : Nat} (ha : inFlash a) (s : State) (addr : Word) (sz : Size) (v : Word) :
    (s.memWrite addr sz v).mem.read a = s.mem.read a := by
  unfold State.memWrite
  split
  · rfl
  · next b hb => exact backingWrite_flash ha (regionOf_backing hb) s.mem _ sz v
  · exact mmioStore_flash ha _ sz v s

/-- Settles O30: neither a store nor the timer block changes a byte of flash. -/
theorem noStepWritesFlash : Obligations.NoStepWritesFlash := by
  intro s t h a ha
  refine step_keeps (P := fun p => p.1.read a = s.mem.read a) (fun u addr sz v hu => ?store) (fun u n hu => ?tick) h rfl
  case store => exact (u.memWrite_flash ha addr sz v).trans hu
  case tick => rw [u.tick_alike n]; exact hu

/-! ## Timer channel 0 has no address (R74, R440) -/

/-- The four words that channel 0 would have are the interrupt controller's (D24). -/
theorem mmioWord_ne_timer_ch0 (k : BitVec 16) (r : TimerReg) : mmioWord k ≠ .timer .ch0 r := by
  unfold mmioWord
  split <;> simp

theorem TimerBlock.set_ch0_of_ne {k : ChannelId} (hk : k ≠ .ch0) (t : TimerBlock) (c : TimerChannel) : (t.set k c).ch0 = t.ch0 := by
  cases k
  case ch0 => exact absurd rfl hk
  all_goals rfl

theorem mmioWrite_ch0 (k : BitVec 16) (v : Word) (s : State) : (mmioWrite (mmioWord k) v s).timers.ch0 = s.timers.ch0 := by
  cases hw : mmioWord k
  case timer ch r => exact TimerBlock.set_ch0_of_ne (fun hch => mmioWord_ne_timer_ch0 k r (hch ▸ hw)) _ _
  all_goals rfl

theorem mmioStore_ch0 (off : BitVec 24) (sz : Size) (v : Word) (s : State) : (mmioStore off sz v s).timers.ch0 = s.timers.ch0 := by
  obtain ⟨w, u, hstore, -, htimers⟩ := mmioStore_eq_mmioWrite off sz v s
  rw [hstore, mmioWrite_ch0, htimers]

theorem State.memWrite_ch0 (s : State) (addr : Word) (sz : Size) (v : Word) : (s.memWrite addr sz v).timers.ch0 = s.timers.ch0 := by
  unfold State.memWrite
  split
  · rfl
  · rfl
  · exact mmioStore_ch0 _ sz v s

theorem State.tickChannel_ch0 {k : ChannelId} (hk : k ≠ .ch0) (s : State) : (s.tickChannel k).timers.ch0 = s.timers.ch0 := by
  unfold State.tickChannel
  dsimp only
  split <;> simp [TimerBlock.set_ch0_of_ne hk]

theorem State.runChannel_ch0 {k : ChannelId} (hk : k ≠ .ch0) (p fuel : Nat) (s : State) :
    (State.runChannel k p fuel s).timers.ch0 = s.timers.ch0 := by
  induction fuel generalizing s with
  | zero => rfl
  | succ fuel ih =>
    unfold State.runChannel
    dsimp only
    split
    · split
      · rw [ih, State.tickChannel_ch0 hk, State.setTimers_timers, TimerBlock.set_ch0_of_ne hk]
      · simp only [State.setTimers_timers, TimerBlock.set_ch0_of_ne hk, State.tickChannel_ch0 hk]
    · rfl

theorem State.feedChannel_ch0 {k : ChannelId} (hk : k ≠ .ch0) (s : State) (n : Nat) :
    (s.feedChannel k n).timers.ch0 = s.timers.ch0 := by
  unfold State.feedChannel
  dsimp only
  split
  · rw [State.runChannel_ch0 hk, State.setTimers_timers, TimerBlock.set_ch0_of_ne hk]
  · rfl

/-- A channel as reset leaves it is disabled, and so it is skipped (R446). -/
theorem State.feedChannel_reset {s : State} {k : ChannelId} (h : s.timers.get k = TimerChannel.reset) (n : Nat) : s.feedChannel k n = s := by
  rw [State.feedChannel, h]
  rfl

theorem State.tick_ch0 {s : State} (h : s.timers.ch0 = TimerChannel.reset) (n : Nat) : (s.tick n).timers.ch0 = TimerChannel.reset := by
  rw [State.tick, State.feedChannel_ch0 (by decide), State.feedChannel_ch0 (by decide), State.feedChannel_reset (k := .ch0) h, h]

/-- Settles O42: no store reaches channel 0, and a tick skips it while it is disabled. -/
theorem channelZeroStaysAtReset : Obligations.ChannelZeroStaysAtReset := by
  intro s t hs h
  exact step_keeps (P := fun p => p.2.ch0 = TimerChannel.reset) (fun u addr sz v hu => (u.memWrite_ch0 addr sz v).trans hu)
    (fun _ n hu => State.tick_ch0 hu n) h hs

end Sys2Proof.Machine
end

section
/-!
PROOFS. Decoding and the step (spec/30_encoding.md, spec/45_compact16.md): the fields of each form and format, from which decoding undoes
encoding; the reserved encodings, form by form; the bits that no field but disp22 takes in; the half of a compact slot that executes; and what one step is.
-/

namespace Sys2Proof

open Claims

/-! ## The fields of each 32-bit form (R103 to R110) -/

/-- A field as an integer. -/
theorem field_toNat {w : Nat} (x : BitVec w) (lo len : Nat) : (x.extractLsb' lo len).toNat = x.toNat / 2 ^ lo % 2 ^ len := by
  rw [BitVec.extractLsb'_toNat, Nat.shiftRight_eq_div_pow]

/-- The lowest bits of a field. -/
theorem field_place_lowest {n w : Nat} (v : BitVec n) (k len : Nat) (h : k + len ≤ w) (hlen : len ≤ n) :
    (place w v k).extractLsb' k len = v.setWidth len := by
  rw [BitVec.setWidth_eq_extractLsb' hlen]
  exact field_place_part v k 0 len h

/-- A slot's bit 0 from the parts of a form. -/
theorem bit0_or (s t : Word) : bit0 (s ||| t) = (bit0 s || bit0 t) := BitVec.getLsbD_or

theorem bit0_place_zero (b : Bool) : bit0 (place 32 (BitVec.ofBool b) 0) = b := by cases b <;> rfl

theorem bit0_place_succ {n : Nat} (v : BitVec n) (k : Nat) : bit0 (place 32 v (k + 1)) = false := by
  simp only [bit0, bit_place, Nat.zero_lt_succ, decide_true, Bool.not_true, Bool.false_and, Bool.and_false]

section SpForm
variable (f : BitVec 6) (d a b : Reg) (cu : Bool)

@[simp] theorem opField_spForm : opField (spForm f d a b cu) = 0#5 := spForm_field_27 f d a b cu

@[simp] theorem rdField_spForm : rdField (spForm f d a b cu) = d := by
  simp [rdField, spForm, BitVec.extractLsb'_or, field_place_same, field_place_high]

@[simp] theorem raField_spForm : raField (spForm f d a b cu) = a := by
  simp [raField, spForm, BitVec.extractLsb'_or, field_place_same, field_place_low, field_place_high]

@[simp] theorem rbField_spForm : rbField (spForm f d a b cu) = b := by
  simp [rbField, spForm, BitVec.extractLsb'_or, field_place_same, field_place_low, field_place_high]

@[simp] theorem bit0_spForm : bit0 (spForm f d a b cu) = cu := by
  simp [spForm, bit0_or, bit0_place_zero, bit0_place_succ]

/-- A field narrower than rB, at its place: the condition, or the selector of `mfce` and `mtce`. -/
theorem spForm_field_10 (len : Nat) (hlen : len ≤ 5) : (spForm f d a b cu).extractLsb' 10 len = b.setWidth len := by
  have hd : (place 32 d 20).extractLsb' 10 len = 0#len := field_place_low d 20 10 len (by omega)
  have ha : (place 32 a 15).extractLsb' 10 len = 0#len := field_place_low a 15 10 len (by omega)
  have hb : (place 32 b 10).extractLsb' 10 len = b.setWidth len := field_place_lowest b 10 len (by omega) hlen
  simp [spForm, BitVec.extractLsb'_or, field_place_high, hd, ha, hb]

@[simp] theorem ccField_spForm : ccField (spForm f d a b cu) = Cond.ofBits (b.setWidth 4) := by
  rw [ccField, spForm_field_10 f d a b cu 4 (by decide)]

@[simp] theorem cmpCcField_spForm : cmpCcField (spForm f d a b cu) = Cond.ofBits (d.setWidth 4) := by
  have hd : (place 32 d 20).extractLsb' 20 4 = d.setWidth 4 := field_place_lowest d 20 4 (by decide) (by decide)
  simp [cmpCcField, spForm, BitVec.extractLsb'_or, field_place_high, hd]

end SpForm

section ImmForm
variable (op : BitVec 5) (f : BitVec 3) (d : Reg) (imm : BitVec 16)

@[simp] theorem opField_immForm : opField (immForm op f d imm) = op := immForm_field_27 op f d imm

@[simp] theorem rdField_immForm : rdField (immForm op f d imm) = d := by
  simp [rdField, immForm, BitVec.extractLsb'_or, field_place_same, field_place_low, field_place_high]

@[simp] theorem imm16Field_immForm : imm16Field (immForm op f d imm) = imm := by
  simp [imm16Field, immForm, BitVec.extractLsb'_or, field_place_same, field_place_low]

end ImmForm

section JForm
variable (disp : BitVec 24) (lk : Bool)

@[simp] theorem opField_jForm : opField (jForm disp lk) = 2#5 := jForm_field_27 disp lk

@[simp] theorem jForm_field_1 : (jForm disp lk).extractLsb' 1 24 = disp := by
  simp [jForm, BitVec.extractLsb'_or, field_place_same, field_place_low, field_place_high]

@[simp] theorem bit0_jForm : bit0 (jForm disp lk) = lk := by
  simp [jForm, bit0_or, bit0_place_zero, bit0_place_succ]

end JForm

section BForm
variable (c : Cond) (disp : BitVec 22) (lk : Bool)

@[simp] theorem opField_bForm : opField (bForm c disp lk) = 4#5 := bForm_field_27 c disp lk

@[simp] theorem ccField_bForm : ccField (bForm c disp lk) = c := by
  simp [ccField, bForm, BitVec.extractLsb'_or, field_place_same, field_place_low, field_place_high, Cond.ofBits_bits]

/-- The two parts of disp22 join again. -/
@[simp] theorem disp22Field_bForm : disp22Field (bForm c disp lk) = disp := by
  have hhigh : (bForm c disp lk).extractLsb' 14 13 = disp.extractLsb' 9 13 := by
    simp [bForm, BitVec.extractLsb'_or, field_place_same, field_place_low, field_place_high]
  have hlow : (bForm c disp lk).extractLsb' 1 9 = disp.extractLsb' 0 9 := by
    simp [bForm, BitVec.extractLsb'_or, field_place_same, field_place_low, field_place_high]
  rw [disp22Field, hhigh, hlow]
  exact BitVec.extractLsb'_append_extractLsb'

@[simp] theorem bit0_bForm : bit0 (bForm c disp lk) = lk := by
  simp [bForm, bit0_or, bit0_place_zero, bit0_place_succ]

end BForm

section RixForm
variable (op : BitVec 5) (f : BitVec 3) (d a : Reg) (imm : BitVec 12)

@[simp] theorem opField_rixForm : opField (rixForm op f d a imm) = op := rixForm_field_27 op f d a imm

@[simp] theorem rdField_rixForm : rdField (rixForm op f d a imm) = d := by
  simp [rdField, rixForm, BitVec.extractLsb'_or, field_place_same, field_place_low, field_place_high]

@[simp] theorem raField_rixForm : raField (rixForm op f d a imm) = a := by
  simp [raField, rixForm, BitVec.extractLsb'_or, field_place_same, field_place_low, field_place_high]

@[simp] theorem imm12Field_rixForm : imm12Field (rixForm op f d a imm) = imm := by
  simp [imm12Field, rixForm, BitVec.extractLsb'_or, field_place_same, field_place_low, field_place_high]

end RixForm

section CrForm
variable (sub : BitVec 8) (d a : Reg)

@[simp] theorem opField_crForm : opField (crForm sub d a) = 6#5 := crForm_field_27 sub d a

@[simp] theorem rdField_crForm : rdField (crForm sub d a) = d := by
  simp [rdField, crForm, BitVec.extractLsb'_or, field_place_same, field_place_low, field_place_high]

@[simp] theorem raField_crForm : raField (crForm sub d a) = a := by
  simp [raField, crForm, BitVec.extractLsb'_or, field_place_same, field_place_low, field_place_high]

end CrForm

section RiForm
variable (op : BitVec 5) (d a : Reg) (imm : BitVec 14)

@[simp] theorem opField_riForm : opField (riForm op d a imm) = op := riForm_field_27 op d a imm

@[simp] theorem rdField_riForm : rdField (riForm op d a imm) = d := by
  simp [rdField, riForm, BitVec.extractLsb'_or, field_place_same, field_place_low, field_place_high]

@[simp] theorem raField_riForm : raField (riForm op d a imm) = a := by
  simp [raField, riForm, BitVec.extractLsb'_or, field_place_same, field_place_low, field_place_high]

@[simp] theorem imm14Field_riForm : imm14Field (riForm op d a imm) = imm := by
  simp [imm14Field, riForm, BitVec.extractLsb'_or, field_place_same, field_place_low]

end RiForm

section MemForm
variable (op : BitVec 5) (d a : Reg) (imm : BitVec 15)

@[simp] theorem opField_memForm : opField (memForm op d a imm) = op := memForm_field_27 op d a imm

@[simp] theorem rdField_memForm : rdField (memForm op d a imm) = d := by
  simp [rdField, memForm, BitVec.extractLsb'_or, field_place_same, field_place_low, field_place_high]

@[simp] theorem raField_memForm : raField (memForm op d a imm) = a := by
  simp [raField, memForm, BitVec.extractLsb'_or, field_place_same, field_place_low, field_place_high]

@[simp] theorem imm15Field_memForm : imm15Field (memForm op d a imm) = imm := by
  simp [imm15Field, memForm, BitVec.extractLsb'_or, field_place_same, field_place_low]

end MemForm

/-! ## Decoding the 32-bit forms -/

theorem decode32_spForm (f : BitVec 6) (d a b : Reg) (cu : Bool) : decode32 (spForm f d a b cu) = decodeSp (spForm f d a b cu) := by
  rw [decode32, opField_spForm]
  rfl

/-- A form's fields are read back, and its selecting fields route to the instruction it was made from. -/
theorem decode32_encoding {i : Instr} {w : Word} (h : encoding i = .word w) : decode32 w = .ok i := by
  cases i
  case nop | trapCc | sdbbp | brCc | brCcL | add | addc | sub | subc | cmpCc | cmpzCc | neg | and | or | not | xor | bitclr | bitset | bittst
      | bittgl | sll | srl | sra | ror | rorc | rol | rolc | mul | mulu | div | divu | mfce | mtce | mfsr | mtsr | tCc | mvCc | extsb | extsh
      | extzb | extzh | slli | srli | srai | rori | roric | roli | rolic =>
    obtain rfl := Encoding.word.inj h
    rw [decode32_spForm, decodeSp, spForm_field_1]
    exact congrArg Except.ok (by simp [Cond.ofBits_bits, spForm_field_10])
  case addi | cmpi | andi | ori | ldi | addis | cmpis | andis | oris | ldis =>
    obtain rfl := Encoding.word.inj h
    simp [decode32, decodeImm, decodeImmShifted, immForm_field_17]
  case j | jl | bCc | bCcL | addri | andri | orri | lw | lh | lhu | lb | lbu | sw | sh | sb =>
    obtain rfl := Encoding.word.inj h
    simp [decode32]
  case mtcr | mfcr | rte =>
    obtain rfl := Encoding.word.inj h
    simp [decode32, decodeCr, crForm_field_0]
  case lwPre | lhPre | lhuPre | lbPre | lbuPre | swPre | shPre | sbPre | lwRix | lhRix | lhuRix | lbRix | lbuRix | swRix | shRix | sbRix =>
    obtain rfl := Encoding.word.inj h
    simp [decode32, decodePre, decodeRix, rixForm_field_0]
  all_goals cases h

/-! ## The fields of each 16-bit format (R113) -/

/-- A half as it stands in a slot: its body, and bit 15, which is the mode flag in H0 and a bit of OP in H1 (R111, R112). -/
def flagged (b : Half) (fl : Bool) : Half := b ||| place 16 (BitVec.ofBool fl) 15

/-- Bit 15 is in no field of the body. -/
@[simp] theorem field_flagged (b : Half) (fl : Bool) {lo len : Nat} (h : lo + len ≤ 15) :
    (flagged b fl).extractLsb' lo len = b.extractLsb' lo len := by
  rw [flagged, BitVec.extractLsb'_or, field_place_low _ _ _ _ h, BitVec.or_zero]

theorem getLsbD_flagged (b : Half) (fl : Bool) {k : Nat} (h : k < 15) : (flagged b fl).getLsbD k = b.getLsbD k := by
  simp only [flagged, BitVec.getLsbD_or, bit_place, h, decide_true, Bool.not_true, Bool.false_and, Bool.and_false, Bool.or_false]

@[simp] theorem rd4Field_flagged (b : Half) (fl : Bool) : rd4Field (flagged b fl) = rd4Field b :=
  congrArg lowReg (field_flagged b fl (by decide))

@[simp] theorem ra4Field_flagged (b : Half) (fl : Bool) : ra4Field (flagged b fl) = ra4Field b :=
  congrArg lowReg (field_flagged b fl (by decide))

@[simp] theorem cc4Field_flagged (b : Half) (fl : Bool) : cc4Field (flagged b fl) = cc4Field b :=
  congrArg Cond.ofBits (field_flagged b fl (by decide))

@[simp] theorem rdWideField_flagged (b : Half) (fl : Bool) : rdWideField (flagged b fl) = rdWideField b := by
  rw [rdWideField, field_flagged b fl (by decide), field_flagged b fl (by decide), rdWideField]

@[simp] theorem ra3Field_flagged (b : Half) (fl : Bool) : ra3Field (flagged b fl) = ra3Field b :=
  congrArg (BitVec.setWidth 5) (field_flagged b fl (by decide))

section NibbleForm
variable (f : BitVec 3) (hi mid lo : BitVec 4)

theorem nibbleForm_field_8 : (nibbleForm f hi mid lo).extractLsb' 8 4 = hi := by
  simp [nibbleForm, BitVec.extractLsb'_or, field_place_same, field_place_low, field_place_high]

@[simp] theorem rd4Field_nibbleForm : rd4Field (nibbleForm f hi mid lo) = lowReg hi := by rw [rd4Field, nibbleForm_field_8]

@[simp] theorem ra4Field_nibbleForm : ra4Field (nibbleForm f hi mid lo) = lowReg mid := by rw [ra4Field, nibbleForm_field_4]

@[simp] theorem cc4Field_nibbleForm : cc4Field (nibbleForm f hi mid lo) = Cond.ofBits hi := by rw [cc4Field, nibbleForm_field_8]

end NibbleForm

section JumpForm
variable (disp : BitVec 11) (lk : Bool)

theorem jumpForm_field_1 : (jumpForm disp lk).extractLsb' 1 11 = disp := by
  simp [jumpForm, BitVec.extractLsb'_or, field_place_same, field_place_low, field_place_high]

theorem jumpForm_bit_0 : (jumpForm disp lk).getLsbD 0 = lk := by
  simp only [jumpForm, BitVec.getLsbD_or, bit_place]
  cases lk <;> rfl

end JumpForm

section ByteForm
variable (f : BitVec 3) (hi : BitVec 4) (lo : BitVec 8)

theorem byteForm_field_0 : (byteForm f hi lo).extractLsb' 0 8 = lo := by
  simp [byteForm, BitVec.extractLsb'_or, field_place_same, field_place_low]

theorem byteForm_field_8 : (byteForm f hi lo).extractLsb' 8 4 = hi := by
  simp [byteForm, BitVec.extractLsb'_or, field_place_same, field_place_low, field_place_high]

@[simp] theorem rd4Field_byteForm : rd4Field (byteForm f hi lo) = lowReg hi := by rw [rd4Field, byteForm_field_8]

@[simp] theorem cc4Field_byteForm : cc4Field (byteForm f hi lo) = Cond.ofBits hi := by rw [cc4Field, byteForm_field_8]

end ByteForm

section FiveForm
variable (f : BitVec 3) (d : BitVec 4) (imm : BitVec 5) (f3 : BitVec 3)

theorem fiveForm_field_3 : (fiveForm f d imm f3).extractLsb' 3 5 = imm := by
  simp [fiveForm, BitVec.extractLsb'_or, field_place_same, field_place_low, field_place_high]

@[simp] theorem rd4Field_fiveForm : rd4Field (fiveForm f d imm f3) = lowReg d := by
  have hfield : (fiveForm f d imm f3).extractLsb' 8 4 = d := by
    simp [fiveForm, BitVec.extractLsb'_or, field_place_same, field_place_low, field_place_high]
  rw [rd4Field, hfield]

end FiveForm

theorem setWidth_base_field (a : Reg) (h : a.isBase = true) : (a.extractLsb' 0 3).setWidth 5 = a := by revert a; decide

section StackForm
variable (f4 : BitVec 4) (d a : Reg)

/-- The two parts of rD join again (R329, R333). -/
@[simp] theorem rdWideField_stackForm : rdWideField (stackForm f4 d a) = d := by
  have hhigh : (stackForm f4 d a).extractLsb' 7 1 = d.extractLsb' 4 1 := by
    simp [stackForm, BitVec.extractLsb'_or, field_place_same, field_place_low, field_place_high]
  have hlow : (stackForm f4 d a).extractLsb' 8 4 = d.extractLsb' 0 4 := by
    simp [stackForm, BitVec.extractLsb'_or, field_place_same, field_place_low, field_place_high]
  rw [rdWideField, hhigh, hlow]
  exact BitVec.extractLsb'_append_extractLsb'

theorem ra3Field_stackForm (ha : a.isBase = true) : ra3Field (stackForm f4 d a) = a := by
  have hfield : (stackForm f4 d a).extractLsb' 4 3 = a.extractLsb' 0 3 := by
    simp [stackForm, BitVec.extractLsb'_or, field_place_same, field_place_low, field_place_high]
  rw [ra3Field, hfield, setWidth_base_field a ha]

end StackForm

/-! ## Decoding the 16-bit formats -/

theorem decodeHalf_jumpForm (m : SlotMode) (disp : BitVec 11) (lk fl : Bool) :
    decodeHalf m (flagged (jumpForm disp lk) fl) = .ok (if lk then .jl16 m disp else .j16 m disp) := by
  rw [decodeHalf, field_flagged _ _ (by decide), jumpForm_field_12]
  refine congrArg Except.ok ?_
  rw [getLsbD_flagged _ _ (by decide), jumpForm_bit_0, field_flagged _ _ (by decide), jumpForm_field_1]

/-- As `decode32_encoding`, for the five formats of a half; a register's 4-bit field holds it where the operand is well formed (R113). -/
theorem decodeHalf_encoding {i : Instr} {m : SlotMode} {b : Half} (hwf : i.wellFormed = true) (h : encoding i = .half m b) (fl : Bool) :
    decodeHalf m (flagged b fl) = .ok i := by
  cases i
  case nop16 | mlfh16 | mhfl16 | mv16 | brCc16 | tCc16 | brCcL16 =>
    obtain ⟨rfl, rfl⟩ := Encoding.half.inj h
    simp_all [Instr.wellFormed, decodeHalf, decodeF0, nibbleForm_field_12, nibbleForm_field_0, nibbleForm_field_4,
      nibbleForm_field_8, lowReg_reg4, highReg_reg4, Cond.ofBits_bits]
  case mtce16 m rd sel | mfce16 m rd sel =>
    obtain ⟨rfl, rfl⟩ := Encoding.half.inj h
    cases sel <;>
      simp_all [Instr.wellFormed, decodeHalf, decodeF1, nibbleForm_field_12, nibbleForm_field_0, nibbleForm_field_4,
        CeHalf.sel, lowReg_reg4]
  case add16 | sub16 | neg16 | cmp16 | and16 | or16 | not16 | xor16 | lw16 | lh16 | lbu16 | sw16 | sh16 | sb16 =>
    obtain ⟨rfl, rfl⟩ := Encoding.half.inj h
    simp_all [Instr.wellFormed, decodeHalf, decodeF2, nibbleForm_field_12, nibbleForm_field_0, lowReg_reg4]
  case pop16 | push16 =>
    obtain ⟨rfl, rfl⟩ := Encoding.half.inj h
    simp_all [Instr.wellFormed, decodeHalf, decodeF2, stackForm_field_12, stackForm_field_0, ra3Field_stackForm]
  case j16 | jl16 =>
    obtain ⟨rfl, rfl⟩ := Encoding.half.inj h
    exact decodeHalf_jumpForm ..
  case bCc16 | ldiu16 =>
    obtain ⟨rfl, rfl⟩ := Encoding.half.inj h
    simp_all [Instr.wellFormed, decodeHalf, byteForm_field_12, byteForm_field_0, lowReg_reg4, Cond.ofBits_bits]
  case addei16 | slli16 | sdbbp16 | srli16 | bitclr16 | bitset16 | bittst16 | bittgl16 =>
    obtain ⟨rfl, rfl⟩ := Encoding.half.inj h
    simp_all [Instr.wellFormed, decodeHalf, decodeF6, fiveForm_field_12, fiveForm_field_0, fiveForm_field_3, lowReg_reg4]
  case lwp16 | lhp16 | lbup16 | swp16 | shp16 | sbp16 =>
    obtain ⟨rfl, rfl⟩ := Encoding.half.inj h
    simp_all [Instr.wellFormed, decodeHalf, decodeF7, fiveForm_field_12, fiveForm_field_0, fiveForm_field_3, lowReg_reg4]
  all_goals cases h

/-! ## The slot -/

theorem opField_toNat (slot : Word) : (opField slot).toNat = slot.toNat / 2 ^ 27 := by
  rw [opField, field_toNat]
  omega

/-- Bits 31:30 are 11 exactly for OP 0x18 to 0x1F, which routes to no 32-bit form (R101, R111). -/
theorem isCompact_iff (slot : Word) : isCompact slot = true ↔ 0x18 ≤ (opField slot).toNat := by
  rw [isCompact, beq_iff_eq, opField_toNat, ← BitVec.toNat_inj, field_toNat]
  show slot.toNat / 2 ^ 30 % 2 ^ 2 = 3 ↔ _
  omega

theorem decode32_of_isCompact {slot : Word} (h : isCompact slot = true) : decode32 slot = .error (.reservedOp (opField slot)) := by
  rw [isCompact_iff] at h
  unfold decode32
  generalize opField slot = op at h
  split
  case h_20 => rfl
  all_goals exact absurd h (by decide)

theorem decodeSlot_of_decode32 {slot : Word} {i : Instr} (h : decode32 slot = .ok i) (pc1 t : Bool) : decodeSlot slot pc1 t = .ok i := by
  cases hc : isCompact slot
  · rw [decodeSlot, hc]
    exact h
  · rw [decode32_of_isCompact hc] at h
    cases h

theorem slotMode_of_bit15 {slot : Word} {m : SlotMode} (h : slot.getLsbD 15 = m.flag) : slotMode slot = m := by
  rw [slotMode, h]
  cases m <;> rfl

/-- Bit 15 of a body is clear: it is the slot's, not the instruction's (R113). -/
theorem encoding_half_bit15 {i : Instr} {m : SlotMode} {b : Half} (h : encoding i = .half m b) : b.getLsbD 15 = false := by
  have hnibble (f : BitVec 3) (hi mid lo : BitVec 4) : (nibbleForm f hi mid lo).getLsbD 15 = false := by simp [nibbleForm, place]
  have hjump (disp : BitVec 11) (lk : Bool) : (jumpForm disp lk).getLsbD 15 = false := by simp [jumpForm, place]
  have hbyte (f : BitVec 3) (hi : BitVec 4) (lo : BitVec 8) : (byteForm f hi lo).getLsbD 15 = false := by simp [byteForm, place]
  have hfive (f : BitVec 3) (d : BitVec 4) (imm : BitVec 5) (f3 : BitVec 3) : (fiveForm f d imm f3).getLsbD 15 = false := by
    simp [fiveForm, place]
  have hstack (f4 : BitVec 4) (d a : Reg) : (stackForm f4 d a).getLsbD 15 = false := by simp [stackForm, place]
  cases i <;> simp only [encoding, reduceCtorEq, Encoding.half.injEq] at h
  all_goals
    obtain ⟨-, rfl⟩ := h
    simp only [hnibble, hjump, hbyte, hfive, hstack]

/-! ## A half in its slot -/

theorem decodeSlot_compact {slot : Word} {m : SlotMode} (hc : isCompact slot = true) (hm : slot.getLsbD 15 = m.flag) (pc1 t : Bool) :
    decodeSlot slot pc1 t = decodeHalf m (selectHalf slot pc1 t) := by
  rw [decodeSlot, if_pos hc, slotMode_of_bit15 hm]

theorem selectHalf_lower (slot : Word) : selectHalf slot false true = slot.extractLsb' 0 16 := by
  rw [selectHalf]
  split <;> rfl

theorem selectHalf_upper (slot : Word) : selectHalf slot true false = slot.extractLsb' 16 16 := by
  rw [selectHalf]
  split <;> rfl

theorem lowSlot_lower (h : Half) : (lowSlot h).extractLsb' 0 16 = h := by
  rw [lowSlot, BitVec.extractLsb'_or, field_place_same h 0 (by decide)]
  exact BitVec.zero_or

theorem isCompact_lowSlot (h : Half) : isCompact (lowSlot h) = true := by
  rw [isCompact, lowSlot, BitVec.extractLsb'_or, field_place_high h 0 30 2 (by decide)]
  rfl

theorem lowSlot_bit15 (b : Half) (m : SlotMode) (hb : b.getLsbD 15 = false) : (lowSlot (flagged b m.flag)).getLsbD 15 = m.flag := by
  simp only [lowSlot, flagged, BitVec.getLsbD_or, bit_place, hb]
  cases m <;> rfl

/-- The bit of OP that stands in the upper half's bit 15 (R111). -/
theorem highSlot_upper (m : SlotMode) (b : Half) : (highSlot m b).extractLsb' 16 16 = flagged b true := by
  rw [highSlot, BitVec.extractLsb'_or, BitVec.extractLsb'_or, field_place_same b 16 (by decide), field_place_high _ 15 16 16 (by decide),
    BitVec.or_zero, BitVec.or_comm, flagged]
  rfl

theorem isCompact_highSlot (m : SlotMode) {b : Half} (hb : b.getLsbD 14 = true) : isCompact (highSlot m b) = true := by
  rw [isCompact, beq_iff_eq]
  apply BitVec.eq_of_getLsbD_eq
  intro k hk
  interval_cases k <;> simp [highSlot, place, hb]

theorem highSlot_bit15 (m : SlotMode) (b : Half) : (highSlot m b).getLsbD 15 = m.flag := by
  simp only [highSlot, BitVec.getLsbD_or, bit_place]
  cases m <;> rfl

/-- Settles O50: a word is decoded by its form; a half, in either position of its slot, is selected, and decoded by its format. -/
theorem decodeUndoesEncode : Obligations.DecodeUndoesEncode := by
  intro i hwf
  cases he : encoding i with
  | word w =>
    refine ⟨?_, fun hfits => by simp [fitsHigh, he] at hfits⟩
    rw [encode, he]
    exact decodeSlot_of_decode32 (decode32_encoding he) false true
  | half m b =>
    have hlow : encode i = lowSlot (flagged b m.flag) := by rw [encode, he]; rfl
    have hhigh : encodeHigh i = highSlot m b := by rw [encodeHigh, he]
    refine ⟨?lower, fun hfits => ?upper⟩
    case lower =>
      rw [hlow, decodeSlot_compact (isCompact_lowSlot _) (lowSlot_bit15 b m (encoding_half_bit15 he)), selectHalf_lower, lowSlot_lower]
      exact decodeHalf_encoding hwf he m.flag
    case upper =>
      have hb : b.getLsbD 14 = true := by rwa [fitsHigh, he] at hfits
      rw [hhigh, decodeSlot_compact (isCompact_highSlot m hb) (highSlot_bit15 m b), selectHalf_upper, highSlot_upper]
      exact decodeHalf_encoding hwf he true

/-! ## The reserved encodings (R116, R310) -/

/-- The OP values that route to a 32-bit form (R101). -/
def wordOps : List (BitVec 5) :=
  [0x00#5, 0x01#5, 0x02#5, 0x03#5, 0x04#5, 0x05#5, 0x06#5, 0x07#5, 0x08#5, 0x0C#5, 0x0D#5, 0x10#5, 0x11#5, 0x12#5, 0x13#5, 0x14#5, 0x15#5,
    0x16#5, 0x17#5]

/-- The func6 values of the SP-form's table (R115). -/
def func6Codes : List (BitVec 6) :=
  [0x00#6, 0x02#6, 0x03#6, 0x04#6, 0x08#6, 0x09#6, 0x0A#6, 0x0B#6, 0x0C#6, 0x0D#6, 0x0F#6, 0x10#6, 0x11#6, 0x12#6, 0x13#6, 0x14#6, 0x15#6,
    0x16#6, 0x17#6, 0x18#6, 0x1A#6, 0x1B#6, 0x1C#6, 0x1D#6, 0x1E#6, 0x1F#6, 0x20#6, 0x21#6, 0x22#6, 0x23#6, 0x24#6, 0x25#6, 0x28#6, 0x29#6,
    0x2A#6, 0x2B#6, 0x2C#6, 0x2D#6, 0x2E#6, 0x2F#6, 0x38#6, 0x3A#6, 0x3B#6, 0x3C#6, 0x3D#6, 0x3E#6, 0x3F#6]

/-- The func3 values of the I-form (R104). -/
def func3Codes : List (BitVec 3) := [0#3, 2#3, 4#3, 5#3, 6#3]

/-- The sub-opcodes of the CR-form (R108). -/
def subOps : List (BitVec 8) := [0x00#8, 0x01#8, 0x84#8]

theorem decodeSp_error_iff (s : Word) : (∃ e, decodeSp s = .error e) ↔ s.extractLsb' 1 6 ∉ func6Codes := by
  unfold decodeSp
  generalize s.extractLsb' 1 6 = func6
  split
  case h_48 => simp_all [func6Codes]
  all_goals simp [func6Codes]

theorem decodeImm_error_iff (s : Word) : (∃ e, decodeImm s = .error e) ↔ s.extractLsb' 17 3 ∉ func3Codes := by
  unfold decodeImm
  generalize s.extractLsb' 17 3 = func3
  split
  case h_6 => simp_all [func3Codes]
  all_goals simp [func3Codes]

theorem decodeImmShifted_error_iff (s : Word) : (∃ e, decodeImmShifted s = .error e) ↔ s.extractLsb' 17 3 ∉ func3Codes := by
  unfold decodeImmShifted
  generalize s.extractLsb' 17 3 = func3
  split
  case h_6 => simp_all [func3Codes]
  all_goals simp [func3Codes]

theorem decodeCr_error_iff (s : Word) : (∃ e, decodeCr s = .error e) ↔ s.extractLsb' 0 8 ∉ subOps := by
  unfold decodeCr
  generalize s.extractLsb' 0 8 = sub
  split
  case h_4 => simp_all [subOps]
  all_goals simp [subOps]

/-- The reserved 32-bit encodings by the fields of the slot (R116). -/
def ReservedFields (s : Word) : Prop :=
  opField s ∉ wordOps ∨ (opField s = 0#5 ∧ s.extractLsb' 1 6 ∉ func6Codes)
    ∨ ((opField s = 1#5 ∨ opField s = 5#5) ∧ s.extractLsb' 17 3 ∉ func3Codes) ∨ (opField s = 6#5 ∧ s.extractLsb' 0 8 ∉ subOps)

theorem decode32_error_iff (s : Word) : (∃ e, decode32 s = .error e) ↔ ReservedFields s := by
  unfold decode32 ReservedFields
  generalize opField s = op
  split
  case h_1 => simpa [wordOps] using decodeSp_error_iff s
  case h_2 => simpa [wordOps] using decodeImm_error_iff s
  case h_6 => simpa [wordOps] using decodeImmShifted_error_iff s
  case h_7 => simpa [wordOps] using decodeCr_error_iff s
  case h_20 => simp_all [wordOps]
  all_goals simp [wordOps]

/-- Below OP 0x18 the values the statement lists are those outside the tables of the decoder. -/
theorem reserved32_iff {s : Word} (h : (opField s).toNat < 0x18) : reserved32 s ↔ ReservedFields s := by
  have hop : ∀ op : BitVec 5, op.toNat < 0x18 → (op.toNat ∈ [0x09, 0x0A, 0x0B, 0x0E, 0x0F] ↔ op ∉ wordOps) := by decide
  have hfunc6 : ∀ f : BitVec 6,
      f.toNat ∈ [0x01, 0x05, 0x06, 0x07, 0x0E, 0x19, 0x26, 0x27, 0x30, 0x31, 0x32, 0x33, 0x34, 0x35, 0x36, 0x37, 0x39] ↔ f ∉ func6Codes := by
    decide
  have hfunc3 : ∀ f : BitVec 3, f.toNat ∈ [1, 3, 7] ↔ f ∉ func3Codes := by decide
  have hsub : ∀ f : BitVec 8, f.toNat ∉ [0x00, 0x01, 0x84] ↔ f ∉ subOps := by decide
  rw [ReservedFields, ← hop _ h, ← hfunc6, ← hfunc3, ← hsub, ← BitVec.toNat_inj, ← BitVec.toNat_inj, ← BitVec.toNat_inj, ← BitVec.toNat_inj,
    opField, field_toNat, field_toNat, field_toNat, field_toNat, Nat.pow_zero, Nat.div_one]
  rfl

theorem decodeF0_error_iff (m : SlotMode) (h : Half) :
    (∃ e, decodeF0 m h = .error e) ↔ (h.extractLsb' 0 4).toNat ∈ [6, 7, 8, 9, 10, 11, 13, 14, 15] := by
  unfold decodeF0
  generalize h.extractLsb' 0 4 = func4
  have hcodes : ∀ f : BitVec 4,
      f.toNat ∈ [6, 7, 8, 9, 10, 11, 13, 14, 15] ↔ f ∉ [0x0#4, 0x1#4, 0x2#4, 0x3#4, 0x4#4, 0x5#4, 0xC#4] := by decide
  rw [hcodes]
  split
  case h_8 => simp_all
  all_goals simp

theorem decodeF1_error_iff (m : SlotMode) (h : Half) :
    (∃ e, decodeF1 m h = .error e) ↔ 2 ≤ (h.extractLsb' 0 4).toNat ∨ 2 ≤ (h.extractLsb' 4 4).toNat := by
  unfold decodeF1
  generalize h.extractLsb' 0 4 = func4
  generalize h.extractLsb' 4 4 = sel
  split
  case h_5 =>
    simp only [Except.error.injEq, exists_eq', true_iff]
    revert func4 sel
    decide
  all_goals simp

theorem decodeF7_error_iff (m : SlotMode) (h : Half) :
    (∃ e, decodeF7 m h = .error e) ↔ (h.extractLsb' 0 3).toNat = 2 ∨ (h.extractLsb' 0 3).toNat = 6 := by
  unfold decodeF7
  generalize h.extractLsb' 0 3 = func3
  split
  case h_7 =>
    simp only [Except.error.injEq, exists_eq', true_iff]
    revert func3
    decide
  all_goals simp

theorem decodeHalf_error_iff (m : SlotMode) (h : Half) : (∃ e, decodeHalf m h = .error e) ↔ reservedHalf h := by
  have hfields : reservedHalf h ↔ ((h.extractLsb' 12 3).toNat = 0 ∧ ∃ e, decodeF0 m h = .error e)
      ∨ ((h.extractLsb' 12 3).toNat = 1 ∧ ∃ e, decodeF1 m h = .error e)
      ∨ ((h.extractLsb' 12 3).toNat = 7 ∧ ∃ e, decodeF7 m h = .error e) := by
    rw [decodeF0_error_iff, decodeF1_error_iff, decodeF7_error_iff, field_toNat, field_toNat, field_toNat, field_toNat, Nat.pow_zero, Nat.div_one]
    rfl
  rw [hfields]
  unfold decodeHalf
  generalize h.extractLsb' 12 3 = f
  split
  case h_8 =>
    have hf : f = 7#3 := by revert f; decide
    simp [hf]
  all_goals simp

/-! ## Bits 26 and 25 (R102, R117) -/

/-- The slots agree in every field that keeps clear of bits 26 and 25. -/
def AgreeBeside2625 (s s' : Word) : Prop := ∀ {lo len : Nat}, lo + len ≤ 25 ∨ 27 ≤ lo → s'.extractLsb' lo len = s.extractLsb' lo len

theorem agreeBeside2625_flip (s : Word) (k : BitVec 2) : AgreeBeside2625 s (s ^^^ place 32 k 25) := by
  intro lo len h
  have hzero : (place 32 k 25).extractLsb' lo len = 0#len := h.elim (field_place_low k 25 lo len) (field_place_high k 25 lo len)
  rw [BitVec.extractLsb'_xor, hzero, BitVec.xor_zero]

section
variable {s s' : Word} (h : AgreeBeside2625 s s')
include h

theorem rdField_congr : rdField s' = rdField s := h (by decide)
theorem raField_congr : raField s' = raField s := h (by decide)
theorem rbField_congr : rbField s' = rbField s := h (by decide)
theorem ccField_congr : ccField s' = ccField s := congrArg Cond.ofBits (h (by decide))
theorem cmpCcField_congr : cmpCcField s' = cmpCcField s := congrArg Cond.ofBits (h (by decide))
theorem imm16Field_congr : imm16Field s' = imm16Field s := h (by decide)
theorem imm14Field_congr : imm14Field s' = imm14Field s := h (by decide)
theorem imm15Field_congr : imm15Field s' = imm15Field s := h (by decide)
theorem imm12Field_congr : imm12Field s' = imm12Field s := h (by decide)

theorem bit0_congr : bit0 s' = bit0 s := by
  have hbit (x : Word) : bit0 x = (x.extractLsb' 0 1).getLsbD 0 := by simp [bit0]
  rw [hbit, hbit, h (by decide)]

theorem decodeSp_congr : decodeSp s' = decodeSp s := by
  rw [decodeSp, decodeSp, rdField_congr h, raField_congr h, rbField_congr h, ccField_congr h, cmpCcField_congr h, bit0_congr h,
    h (lo := 1) (len := 6) (by decide), h (lo := 10) (len := 2) (by decide)]

theorem decodeImm_congr : decodeImm s' = decodeImm s := by
  rw [decodeImm, decodeImm, rdField_congr h, imm16Field_congr h, h (by decide)]

theorem decodeImmShifted_congr : decodeImmShifted s' = decodeImmShifted s := by
  rw [decodeImmShifted, decodeImmShifted, rdField_congr h, imm16Field_congr h, h (by decide)]

theorem decodePre_congr : decodePre s' = decodePre s := by
  rw [decodePre, decodePre, rdField_congr h, raField_congr h, imm12Field_congr h, h (by decide)]

theorem decodeRix_congr : decodeRix s' = decodeRix s := by
  rw [decodeRix, decodeRix, rdField_congr h, raField_congr h, imm12Field_congr h, h (by decide)]

theorem decodeCr_congr : decodeCr s' = decodeCr s := by
  rw [decodeCr, decodeCr, rdField_congr h, raField_congr h, h (by decide)]

/-- Only the B-form, OP 4, has a field across bits 26 and 25 (R107). -/
theorem decode32_congr (hop : opField s ≠ 4#5) : decode32 s' = decode32 s := by
  have hopField : opField s' = opField s := h (by decide)
  rw [decode32, decode32, hopField, decodeSp_congr h, decodeImm_congr h, decodeImmShifted_congr h, decodePre_congr h, decodeRix_congr h,
    decodeCr_congr h, rdField_congr h, raField_congr h, imm14Field_congr h, imm15Field_congr h, bit0_congr h,
    h (lo := 1) (len := 24) (by decide)]
  split
  case h_5 hb => exact absurd hb hop
  all_goals rfl

end

/-- Settles O47: of the fields of a slot only disp22 takes in bits 26 and 25. -/
theorem bitsTwentySixTwentyFiveIgnored : Obligations.BitsTwentySixTwentyFiveIgnored :=
  fun slot k hop _ => decode32_congr (agreeBeside2625_flip slot k) hop

/-! ## Compact slots -/

/-- A slot's lower half as an integer. -/
theorem ofNat_lower (slot : Word) : BitVec.ofNat 16 (slot.toNat % 2 ^ 16) = slot.extractLsb' 0 16 := by
  apply BitVec.eq_of_toNat_eq
  rw [field_toNat, BitVec.toNat_ofNat, Nat.mod_mod, Nat.pow_zero, Nat.div_one]

theorem ofNat_upper (slot : Word) : BitVec.ofNat 16 (slot.toNat / 2 ^ 16) = slot.extractLsb' 16 16 := by
  apply BitVec.eq_of_toNat_eq
  rw [field_toNat, BitVec.toNat_ofNat]

theorem selectHalf_single {slot : Word} (h : slot.getLsbD 15 = false) (pc1 t : Bool) :
    selectHalf slot pc1 t = if pc1 then slot.extractLsb' 16 16 else slot.extractLsb' 0 16 := by
  rw [selectHalf, slotMode_of_bit15 (m := .single) h]

theorem selectHalf_parallel {slot : Word} (h : slot.getLsbD 15 = true) (pc1 t : Bool) :
    selectHalf slot pc1 t = if t then slot.extractLsb' 0 16 else slot.extractLsb' 16 16 := by
  rw [selectHalf, slotMode_of_bit15 (m := .parallel) h]

/-! ## The words of the spec's examples (R124) -/

/-- Settles O49: the words are evaluated. -/
theorem specWordsDecode : Obligations.SpecWordsDecode :=
  ⟨fun _ _ => rfl, fun _ _ => rfl, fun _ _ => rfl, fun _ _ => rfl, fun _ _ => rfl, rfl, rfl, rfl⟩

end Sys2Proof

namespace Sys2Proof.Machine

open Claims

/-! ## What a CPU step does (R120) -/

theorem cpuStep_of_halted {s : State} (h : s.halted = true) : s.cpuStep = .next s := if_pos h

theorem cpuStep_of_not_halted {s : State} (h : s.halted = false) :
    s.cpuStep = andThen (State.execSlot s.fetch.1 s.fetch.2) fun t => .next t.countStep := by
  rw [State.cpuStep, h]
  rfl

/-- The fetch leaves pc and T as they were, by which the half of a compact slot is chosen (R112). -/
theorem decodeSlot_after_fetch (s : State) :
    decodeSlot s.fetch.1 (s.fetch.2.pc.getLsbD 1) s.fetch.2.flags.t = decodeSlot s.fetch.1 (s.pc.getLsbD 1) s.flags.t := by
  simp [State.fetch]

theorem cpuStep_of_decoded {s : State} {i : Instr} (hh : s.halted = false)
    (hi : decodeSlot s.fetch.1 (s.pc.getLsbD 1) s.flags.t = .ok i) :
    s.cpuStep = andThen (exec i s.fetch.2) fun t => .next t.countStep := by
  rw [cpuStep_of_not_halted hh, State.execSlot, decodeSlot_after_fetch, hi]

theorem execSlot_of_reserved {s : State} {slot : Word} {e : DecodeError} (h : decodeSlot slot (s.pc.getLsbD 1) s.flags.t = .error e) :
    State.execSlot slot s = .next (s.enter Config.causeInvalid) := by
  rw [State.execSlot, h]
  exact raise_spec s _

theorem cpuStep_of_reserved {s : State} {e : DecodeError} (hh : s.halted = false)
    (he : decodeSlot s.fetch.1 (s.pc.getLsbD 1) s.flags.t = .error e) :
    s.cpuStep = .next (s.fetch.2.enter Config.causeInvalid).countStep := by
  rw [cpuStep_of_not_halted hh, execSlot_of_reserved ((decodeSlot_after_fetch s).trans he), andThen_next]

/-! ## Invalid slots (R116, R298) and the compact slot (R112) -/

/-- Settles O46: a slot that is not compact decodes as a 32-bit form, a compact one as the half that executes. -/
theorem invalidIsExactlyTheReserved : Obligations.InvalidIsExactlyTheReserved := by
  refine ⟨fun slot pc1 t h => ?word, fun slot pc1 t h => ?compact, fun _ _ _ => execSlot_of_reserved⟩
  case word =>
    have hc : ¬ isCompact slot = true := by rwa [isCompact, beq_iff_eq]
    rw [decodeSlot, if_neg hc, decode32_error_iff, reserved32_iff (not_le.1 (mt (isCompact_iff slot).2 hc))]
  case compact =>
    rw [decodeSlot, if_pos (by rwa [isCompact, beq_iff_eq]), decodeHalf_error_iff]

theorem next16_parallel_toNat (pc : Word) : (next16 .parallel pc).toNat = (pc.toNat / 4 * 4 + 4) % 2 ^ 32 := by
  have hword : (pc &&& 0xFFFFFFFC#32).toNat = pc.toNat / 4 * 4 := toNat_and_allOnes_shiftLeft pc 2
  rw [next16, BitVec.toNat_add, hword]
  rfl

/-- Settles O48: p0 gives the mode, and with it the rule by which the half is chosen. -/
theorem compactSlotSelectsOneHalf : Obligations.CompactSlotSelectsOneHalf := by
  intro s slot hop h0 h1 pc1
  have hc : isCompact slot = true := by
    rw [isCompact_iff, opField_toNat]
    simp only [List.mem_cons, List.not_mem_nil, or_false] at hop
    omega
  have hlower : h0 = slot.extractLsb' 0 16 := ofNat_lower slot
  have hupper : h1 = slot.extractLsb' 16 16 := ofNat_upper slot
  rw [hlower, hupper]
  refine ⟨fun hp0 => ⟨?_, rfl⟩, fun hp0 => ⟨?_, next16_parallel_toNat s.pc⟩⟩
  · rw [decodeSlot_compact (m := .single) hc hp0, selectHalf_single hp0]
  · rw [decodeSlot_compact (m := .parallel) hc hp0, selectHalf_parallel hp0]

/-! ## Which unit a step is (R501, R505, R513) -/

theorem step_of_paused {s : State} (hm : s.mode = .paused) : step s = s.singleStep := by
  rw [step, State.engineUnit, hm]

theorem step_of_inFrame {s : State} {c : Int} (hm : s.mode = .running) (hc : s.cyclesRemaining = some c) (hpos : 0 < c) :
    step s = s.iteration c := by
  rw [step, State.engineUnit, hm, hc]
  exact if_pos hpos

theorem step_of_betweenFrames {s : State} (hm : s.mode = .running) (hc : s.cyclesRemaining = none) : step s = .next s.beginFrame := by
  rw [step, State.engineUnit, hm, hc]

theorem step_of_frameDone {s : State} {c : Int} (hm : s.mode = .running) (hc : s.cyclesRemaining = some c) (hdone : c ≤ 0) :
    step s = .next s.endFrame := by
  rw [step, State.engineUnit, hm, hc]
  exact if_neg (not_lt.2 hdone)

theorem step_of_idle {s : State} (hm : s.mode = .stopped ∨ s.mode = .loading ∨ s.mode = .error) : step s = .next s := by
  rcases hm with hm | hm | hm <;> rw [step, State.engineUnit, hm]

/-- What the CPU step gives is charged to the slice, and inside a frame to the frame. -/
theorem step_of_cpuStep {s : State} {r : Result} (h : s.cpuStep = r) :
    (s.mode = .paused → step s = andThen r fun t => .next t.chargeSlice)
      ∧ ∀ c, s.mode = .running ∧ s.cyclesRemaining = some c ∧ 0 < c → s.pc ∉ s.breakpoints →
        step s = andThen r fun t => .next (t.chargeFrame c).chargeSlice := by
  refine ⟨fun hm => ?_, fun c ⟨hm, hc, hpos⟩ hb => ?_⟩
  · rw [step_of_paused hm, State.singleStep, h]
  · rw [step_of_inFrame hm hc hpos, State.iteration, if_neg hb, h]

theorem andThen_assoc (r : Result) (f g : State → Result) : andThen (andThen r f) g = andThen r fun t => andThen (f t) g := by
  cases r <;> rfl

/-- Settles O51: the first three clauses are what the CPU step gives, charged; the others are the engine's other units. -/
theorem stepRunsTheDecodedInstruction : Obligations.StepRunsTheDecodedInstruction := by
  intro s counted charged inFrame
  refine ⟨fun i hh hi _ => ?decoded, fun e hh he => step_of_cpuStep (cpuStep_of_reserved hh he),
    fun hh => step_of_cpuStep (cpuStep_of_halted hh), fun c ⟨hm, hc, hpos⟩ hb => ?breakpoint, step_of_betweenFrames,
    fun _ => step_of_frameDone, step_of_idle⟩
  case decoded =>
    have hstep := step_of_cpuStep (cpuStep_of_decoded hh hi)
    simp only [andThen_assoc, andThen_next] at hstep
    exact hstep
  case breakpoint =>
    rw [step_of_inFrame hm hc hpos, State.iteration, if_pos hb]
    rfl

end Sys2Proof.Machine
end

section
/-!
PROOFS. The ALU (spec/40_alu.md): the slot of an SP-form instruction, what an instruction that ends in one of the shared results yields, the
results themselves in integers (R141, R142, section 6) and bit by bit (sections 4 and 5), and that no instruction outside R143's rows writes a flag.
-/

namespace Sys2Proof.Machine

open Claims

/-! ## The slot of an SP-form instruction (R103) -/

theorem spSlot_eq_spForm (f : BitVec 6) (rd ra rb : Reg) (cu : Bool) : spSlot (place 32 f 1) rd ra rb cu = spForm f rd ra rb cu := by
  have hcu : (BitVec.ofBool cu).setWidth 32 = place 32 (BitVec.ofBool cu) 0 := (BitVec.shiftLeft_zero _).symm
  rw [spSlot, hcu]
  show place 32 f 1 ||| place 32 rd 20 ||| place 32 ra 15 ||| place 32 rb 10 ||| place 32 (BitVec.ofBool cu) 0 = _
  rw [spForm, BitVec.or_comm (place 32 rd 20 ||| place 32 ra 15 ||| place 32 rb 10)]
  simp only [BitVec.or_assoc]

theorem decodes_spSlot {i : Instr} {base : Word} {f : BitVec 6} {rd ra rb : Reg} {cu : Bool} (hbase : base = place 32 f 1)
    (hi : encoding i = .word (spForm f rd ra rb cu)) : Decodes (spSlot base rd ra rb cu) i := by
  rw [hbase, spSlot_eq_spForm]
  exact decodeSlot_of_decode32 (decode32_encoding hi)

/-! ## What an instruction that ends in a shared result yields -/

theorem getLsbD_31_eq_msb (r : Word) : r.getLsbD 31 = r.msb := rfl

theorem getLsbD_31_eq_decide (r : Word) : r.getLsbD 31 = decide (2 ^ 31 ≤ r.toNat) := by
  rw [getLsbD_31_eq_msb, BitVec.msb_eq_decide]

theorem toNat_decide_le (r : Word) : (decide (2 ^ 31 ≤ r.toNat)).toNat = r.toNat / 2 ^ 31 := by
  by_cases h : 2 ^ 31 ≤ r.toNat <;> simp only [h, decide_true, decide_false, Bool.toNat_true, Bool.toNat_false] <;> omega

theorem Flags.setNZ_eq_nz (f : Flags) (r : Word) : f.setNZ r = nz f true r := by
  rw [Flags.setNZ, getLsbD_31_eq_decide]
  rfl

theorem Flags.setNZCV_eq_nzcv (f : Flags) (r : Word) (c v : Bool) : f.setNZCV ⟨r, c, v⟩ = nzcv f true r c v := by
  rw [Flags.setNZCV, Flags.setNZ_eq_nz]
  rfl

theorem yieldsReg_of_setX_goto {i : Instr} {s : State} {rd : Reg} {r r' next : Word} (h : exec i s = .next ((s.setX rd r).goto next))
    (hr : r = r') : YieldsReg i s rd r' s.flags next := by
  subst hr
  obtain ⟨hrd, hother, -⟩ := s.setX_spec rd r
  exact ⟨_, h, hrd, hother, rfl, rfl, fun _ => rfl, rfl⟩

theorem yieldsReg_of_putLogic {i : Instr} {s : State} {rd : Reg} {r r' : Word} {cu : Bool} (h : exec i s = done32 (s.putLogic rd r cu))
    (hr : r = r') : YieldsReg i s rd r' (nz s.flags cu r') (s.pc + 4#32) := by
  subst hr
  obtain ⟨hrd, hother, hflags, -⟩ := s.putLogic_spec rd r cu
  refine ⟨_, h, hrd, hother, ?_, rfl, fun _ => rfl, rfl⟩
  rw [State.advance32, State.goto_flags, hflags, Flags.setNZ_eq_nz]
  cases cu <;> rfl

theorem yieldsReg_of_putArith {i : Instr} {s : State} {rd : Reg} {a : Arith} {r : Word} {c v cu : Bool}
    (h : exec i s = done32 (s.putArith rd a cu)) (ha : a = ⟨r, c, v⟩) :
    YieldsReg i s rd r (nzcv s.flags cu r c v) (s.pc + 4#32) := by
  subst ha
  obtain ⟨hrd, hother, hflags, -⟩ := s.putArith_spec rd ⟨r, c, v⟩ cu
  refine ⟨_, h, hrd, hother, ?_, rfl, fun _ => rfl, rfl⟩
  rw [State.advance32, State.goto_flags, hflags, Flags.setNZCV_eq_nzcv]
  rfl

theorem yieldsFlags_of_setFlags {i : Instr} {s : State} {f f' : Flags} {next : Word} (h : exec i s = .next ((s.setFlags f).goto next))
    (hf : f = f') : YieldsFlags i s f' next := by
  subst hf
  exact ⟨_, h, fun _ => rfl, rfl⟩

/-! ## AddF and SubF in integers (R141, R142) -/

/-- The signed value does not fit 32 bits: V of an addition or subtraction. -/
def outOfRange (v : Int) : Bool := decide (v < -2 ^ 31 ∨ 2 ^ 31 ≤ v)

theorem place_ofBool_zero (b : Bool) : place 32 (BitVec.ofBool b) 0 = BitVec.ofNat 32 b.toNat := by cases b <;> rfl

theorem addF_value (a b : Word) (cin : Bool) : (addF a b cin).value = BitVec.ofNat 32 (a.toNat + b.toNat + cin.toNat) := by
  rw [addF, place_ofBool_zero, BitVec.ofNat_add, BitVec.ofNat_add, BitVec.ofNat_toNat, BitVec.ofNat_toNat]
  simp

theorem subF_value (a b : Word) (borrow : Bool) :
    (subF a b borrow).value = BitVec.ofInt 32 (a.toNat - b.toNat - borrow.toNat) := by
  rw [subF, place_ofBool_zero, Int.sub_eq_add_neg, Int.sub_eq_add_neg, BitVec.ofInt_add, BitVec.ofInt_add, BitVec.ofInt_neg, BitVec.ofInt_neg]
  simp [BitVec.sub_eq_add_neg]

theorem addF_overflow (a b : Word) (cin : Bool) : (addF a b cin).overflow = outOfRange (a.toInt + b.toInt + cin.toNat) := by
  have hv := congrArg BitVec.toNat (addF_value a b cin)
  have ha := a.isLt
  have hb := b.isLt
  have hc := cin.toNat_le
  show (~~~(a ^^^ b) &&& (a ^^^ (addF a b cin).value)).getLsbD 31 = _
  rw [BitVec.toNat_ofNat] at hv
  simp only [BitVec.getLsbD_and, BitVec.getLsbD_not, BitVec.getLsbD_xor]
  simp only [getLsbD_31_eq_decide, hv, outOfRange, BitVec.toInt_eq_toNat_cond]
  grind

theorem subF_overflow (a b : Word) (borrow : Bool) :
    (subF a b borrow).overflow = outOfRange (a.toInt - b.toInt - borrow.toNat) := by
  have hv := congrArg BitVec.toNat (subF_value a b borrow)
  have ha := a.isLt
  have hb := b.isLt
  have hc := borrow.toNat_le
  show ((a ^^^ b) &&& ~~~((subF a b borrow).value ^^^ b)).getLsbD 31 = _
  rw [BitVec.toNat_ofInt] at hv
  simp only [BitVec.getLsbD_and, BitVec.getLsbD_not, BitVec.getLsbD_xor]
  simp only [getLsbD_31_eq_decide, hv, outOfRange, BitVec.toInt_eq_toNat_cond]
  grind

theorem addF_eq (a b : Word) (cin : Bool) :
    addF a b cin = ⟨BitVec.ofNat 32 (a.toNat + b.toNat + cin.toNat), decide (2 ^ 32 ≤ a.toNat + b.toNat + cin.toNat),
      outOfRange (a.toInt + b.toInt + cin.toNat)⟩ := by
  rw [← addF_value, ← addF_overflow]
  rfl

theorem subF_eq (a b : Word) (borrow : Bool) :
    subF a b borrow = ⟨BitVec.ofInt 32 (a.toNat - b.toNat - borrow.toNat), decide (b.toNat + borrow.toNat ≤ a.toNat),
      outOfRange (a.toInt - b.toInt - borrow.toNat)⟩ := by
  rw [← subF_value, ← subF_overflow]
  rfl

/-- Without a carry in, the sum exceeds 2^32 - 1 when b exceeds what a leaves free. -/
theorem addF_false (a b : Word) :
    addF a b false = ⟨BitVec.ofNat 32 (a.toNat + b.toNat), decide (b.toNat > 0xFFFFFFFF - a.toNat), outOfRange (a.toInt + b.toInt)⟩ := by
  have hcarry : 2 ^ 32 ≤ a.toNat + b.toNat ↔ b.toNat > 0xFFFFFFFF - a.toNat := by omega
  simp only [addF_eq, Bool.toNat_false, Nat.add_zero, Nat.cast_zero, Int.add_zero, hcarry]

theorem subF_false (a b : Word) :
    subF a b false = ⟨BitVec.ofInt 32 (a.toNat - b.toNat), decide (b.toNat ≤ a.toNat), outOfRange (a.toInt - b.toInt)⟩ := by
  simp only [subF_eq, Bool.toNat_false, Nat.add_zero, Nat.cast_zero, Int.sub_zero]

theorem subF_not (a b : Word) (c : Bool) :
    subF a b (!c) = ⟨BitVec.ofInt 32 (a.toNat - b.toNat - (1 - c.toNat : Nat)), decide (b.toNat + (1 - c.toNat) ≤ a.toNat),
      outOfRange (a.toInt - b.toInt - (1 - c.toNat : Nat))⟩ := by
  have hborrow : (!c).toNat = 1 - c.toNat := by cases c <;> rfl
  rw [subF_eq, hborrow]

/-- cmpz (D11): no borrow and no overflow. -/
theorem subF_zero (a : Word) : subF a 0#32 false = ⟨a, true, false⟩ := by simp [subF, place]

theorem subF_self (a : Word) : subF a a false = ⟨0#32, true, false⟩ := by simp [subF, place]

/-- neg (R148): only 0 needs no borrow, and only the least integer has no negative. -/
theorem subF_zero_left (b : Word) :
    subF 0#32 b false = ⟨BitVec.ofInt 32 (-b.toInt), decide (b = 0#32), decide (b = 0x80000000#32)⟩ := by
  have hvalue : BitVec.ofInt 32 (((0#32 : Word).toNat : Int) - b.toNat) = BitVec.ofInt 32 (-b.toInt) := by
    rw [BitVec.ofInt_neg, BitVec.ofInt_toInt, BitVec.toNat_zero, Nat.cast_zero, Int.zero_sub, BitVec.ofInt_neg, BitVec.ofInt_natCast,
      BitVec.ofNat_toNat, BitVec.setWidth_eq]
  have hcarry : b.toNat ≤ (0#32 : Word).toNat ↔ b = 0#32 := by
    rw [← BitVec.toNat_inj]
    exact Nat.le_zero
  have hb := b.isLt
  have hoverflow : outOfRange ((0#32 : Word).toInt - b.toInt) = decide (b = 0x80000000#32) := by
    simp only [outOfRange, ← BitVec.toNat_inj, BitVec.toInt_eq_toNat_cond, BitVec.toNat_ofNat]
    grind
  simp only [subF_false, hvalue, hcarry, hoverflow]

/-! ## Addition, subtraction and compare -/

/-- Settles O1: AddF without a carry in. -/
theorem addGivesSumAndFlags : Obligations.AddGivesSumAndFlags := fun _ _ _ _ _ =>
  ⟨decodes_spSlot (f := 0x08#6) rfl rfl, yieldsReg_of_putArith rfl (addF_false _ _)⟩

/-- Settles O3: SubF without a borrow. -/
theorem subGivesDifferenceAndFlags : Obligations.SubGivesDifferenceAndFlags := fun _ _ _ _ _ =>
  ⟨decodes_spSlot (f := 0x0A#6) rfl rfl, yieldsReg_of_putArith rfl (subF_false _ _)⟩

/-- Settles O2: AddF with C, SubF with 1 - C (D10), and SubF from 0. -/
theorem carryBorrowAndNegation : Obligations.CarryBorrowAndNegation := fun _ _ _ _ _ =>
  ⟨yieldsReg_of_putArith rfl (addF_eq _ _ _), yieldsReg_of_putArith rfl (subF_not _ _ _), yieldsReg_of_putArith rfl (subF_zero_left _)⟩

/-- R7: the signed number itself, modulo 2^32. -/
theorem sext_eq_ofInt {n : Nat} (v : BitVec n) : sext v = BitVec.ofInt 32 v.toInt := rfl

theorem immShifted_eq_ofNat (imm : BitVec 16) : immShifted imm = BitVec.ofNat 32 (imm.toNat * 2 ^ 16) := by
  rw [immShifted, zext, BitVec.shiftLeft_eq_mul_twoPow, BitVec.ofNat_mul, BitVec.ofNat_toNat]
  rfl

/-- Settles O4: each compare writes the flags of its subtraction; cmp and cmpz add T, their condition on those flags. -/
theorem compareWritesFlagsAlone : Obligations.CompareWritesFlagsAlone := by
  intro s c ra rb imm m cmp withT
  have hcmp (a b : Word) : s.flags.setNZCV (subF a b false) = cmp a b := by
    rw [subF_false, Flags.setNZCV_eq_nzcv]
    rfl
  have hzero (a : Word) : s.flags.setNZCV (subF a 0#32 false) = nzcv s.flags true a true false := by
    rw [subF_zero, Flags.setNZCV_eq_nzcv]
  refine ⟨yieldsFlags_of_setFlags rfl ?cmp, yieldsFlags_of_setFlags rfl ?cmpz, yieldsFlags_of_setFlags rfl (hcmp _ _),
    yieldsFlags_of_setFlags rfl ?cmpis, yieldsFlags_of_setFlags rfl (hcmp _ _)⟩
  case cmp => exact congrArg (Flags.setT · c) (hcmp _ _)
  case cmpz => exact congrArg (Flags.setT · c) (hzero _)
  case cmpis => rw [hcmp, immShifted_eq_ofNat]

/-! ## Logic and bit operations -/

theorem getLsbD_ofBits (f : Nat → Bool) {i : Nat} (hi : i < 32) : (ofBits f).getLsbD i = f i :=
  BitVec.iunfoldr_getLsbD (fun _ => ()) ⟨i, hi⟩ fun _ => rfl

theorem eq_ofBits {r : Word} {f : Nat → Bool} (h : ∀ i < 32, r.getLsbD i = f i) : r = ofBits f :=
  BitVec.eq_of_getLsbD_eq fun i hi => by rw [h i hi, getLsbD_ofBits f hi]

theorem bitMask_eq_twoPow (bit : BitVec 5) : bitMask bit = BitVec.twoPow 32 bit.toNat := (BitVec.twoPow_eq _ _).symm

theorem getLsbD_bitMask (bit : BitVec 5) (i : Nat) : (bitMask bit).getLsbD i = (i == bit.toNat) := by
  have hbit : bit.toNat < 32 := bit.isLt
  rw [bitMask_eq_twoPow, BitVec.getLsbD_twoPow, decide_eq_true hbit, Bool.true_and]
  exact decide_eq_decide.2 eq_comm

/-- R157: the masked word is 0 exactly where the bit is. -/
theorem and_bitMask_ne_zero (a : Word) (bit : BitVec 5) : (a &&& bitMask bit != 0#32) = a.getLsbD bit.toNat := by
  have hbit : bit.toNat < 32 := bit.isLt
  have hmask : BitVec.twoPow 32 bit.toNat ≠ 0#32 := fun h => by
    have := congrArg (BitVec.getLsbD · bit.toNat) h
    simp [hbit] at this
  rw [bitMask_eq_twoPow, BitVec.and_twoPow]
  cases a.getLsbD bit.toNat <;> simp [hmask]

/-- Settles O5: each result is read bit by bit, a mask having the one bit its number names. -/
theorem logicAndBitsActBitByBit : Obligations.LogicAndBitsActBitByBit := by
  intro s m rd ra rb bit cu a b is gives tested
  have htested : s.flags.setBitTest (s.x ra &&& bitMask bit != 0#32) = tested := by rw [and_bitMask_ne_zero]; rfl
  refine ⟨yieldsReg_of_putLogic rfl (eq_ofBits fun i hi => ?and), yieldsReg_of_putLogic rfl (eq_ofBits fun i hi => ?or),
    yieldsReg_of_putLogic rfl (eq_ofBits fun i hi => ?xor), yieldsReg_of_putLogic rfl (eq_ofBits fun i hi => ?not),
    yieldsReg_of_putLogic rfl (eq_ofBits fun i hi => ?bitclr), yieldsReg_of_putLogic rfl (eq_ofBits fun i hi => ?bitset),
    yieldsReg_of_putLogic rfl (eq_ofBits fun i hi => ?bittgl), yieldsFlags_of_setFlags rfl htested, yieldsFlags_of_setFlags rfl htested⟩
  case and => exact BitVec.getLsbD_and
  case or => exact BitVec.getLsbD_or
  case xor => exact BitVec.getLsbD_xor
  case not => simp [a, hi]
  case bitclr => rw [BitVec.getLsbD_and, BitVec.getLsbD_not, getLsbD_bitMask, decide_eq_true hi, Bool.true_and]
  case bitset => rw [BitVec.getLsbD_or, getLsbD_bitMask]
  case bittgl => rw [BitVec.getLsbD_xor, getLsbD_bitMask]

/-! ## Shifts, rotates and extensions -/

theorem shiftCount_eq_mod (b : Word) : shiftCount b = b.toNat % 32 := Nat.and_two_pow_sub_one_eq_mod b.toNat 5

theorem shiftLeft_eq_ofNat (a : Word) (n : Nat) : shiftLeft a n = BitVec.ofNat 32 (a.toNat * 2 ^ n) := by
  apply BitVec.eq_of_toNat_eq
  rw [shiftLeft, BitVec.toNat_shiftLeft, Nat.shiftLeft_eq, BitVec.toNat_ofNat]

theorem shiftRight_eq_ofNat (a : Word) (n : Nat) : shiftRight a n = BitVec.ofNat 32 (a.toNat / 2 ^ n) := by
  rw [← Nat.shiftRight_eq_div_pow, ← BitVec.toNat_ushiftRight, BitVec.ofNat_toNat, BitVec.setWidth_eq]
  rfl

theorem shiftRightArith_eq_ofInt (a : Word) (n : Nat) : shiftRightArith a n = BitVec.ofInt 32 (a.toInt / 2 ^ n) := by
  rw [shiftRightArith, BitVec.sshiftRight_eq, Int.shiftRight_eq_div_pow]
  rfl

/-- Settles O6: the count is x[rB] mod 32, and each shift by n is arithmetic with 2^n. -/
theorem registerShiftsAreArithmetic : Obligations.RegisterShiftsAreArithmetic := by
  intro s rd ra rb cu n gives
  have hn : shiftCount (s.x rb) = n := shiftCount_eq_mod _
  refine ⟨decodes_spSlot (f := 0x18#6) rfl rfl, yieldsReg_of_putLogic rfl ?sll, decodes_spSlot (f := 0x1A#6) rfl rfl,
    yieldsReg_of_putLogic rfl ?srl, decodes_spSlot (f := 0x1B#6) rfl rfl, yieldsReg_of_putLogic rfl ?sra⟩
  case sll => rw [hn, shiftLeft_eq_ofNat]
  case srl => rw [hn, shiftRight_eq_ofNat]
  case sra => rw [hn, shiftRightArith_eq_ofInt]

theorem rotRight_eq_rotateRight (a : Word) {n : Nat} (hn : n < 32) : rotRight a n = a.rotateRight n := by
  rw [BitVec.rotateRight_eq_rotateRightAux_of_lt hn, BitVec.rotateRightAux, rotRight]
  split
  · next h => simp [h]
  · rfl

theorem rotLeft_eq_rotateLeft (a : Word) {n : Nat} (hn : n < 32) : rotLeft a n = a.rotateLeft n := by
  rw [BitVec.rotateLeft_eq_rotateLeftAux_of_lt hn, BitVec.rotateLeftAux, rotLeft]
  split
  · next h => simp [h, BitVec.ushiftRight_eq_zero]
  · rfl

/-- ROR by n < 32 (R162): bit i comes from bit (i + n) mod 32. -/
theorem getLsbD_rotRight (a : Word) {n i : Nat} (hn : n < 32) (hi : i < 32) : (rotRight a n).getLsbD i = a.getLsbD ((i + n) % 32) := by
  rw [rotRight_eq_rotateRight a hn, BitVec.getLsbD_rotateRight_of_lt hn, Bool.cond_decide]
  split
  · next h => congr 1; omega
  · next h => rw [decide_eq_true hi, Bool.true_and]; congr 1; omega

/-- ROL by n < 32 (R164): bit i comes from bit (i - n) mod 32. -/
theorem getLsbD_rotLeft (a : Word) {n i : Nat} (hn : n < 32) (hi : i < 32) : (rotLeft a n).getLsbD i = a.getLsbD ((i + 32 - n) % 32) := by
  rw [rotLeft_eq_rotateLeft a hn, BitVec.getLsbD_rotateLeft_of_le hn, Bool.cond_decide]
  split
  · next h => congr 1; omega
  · next h => rw [decide_eq_true hi, Bool.true_and]; congr 1; omega

theorem rotRight_rotLeft (a : Word) {n : Nat} (hn : n < 32) : rotRight (rotLeft a n) n = a := by
  apply BitVec.eq_of_getLsbD_eq
  intro i hi
  rw [getLsbD_rotRight _ hn hi, getLsbD_rotLeft _ hn (Nat.mod_lt _ (by decide))]
  congr 1
  omega

theorem sext_low_eq_ofInt (a : Word) {n : Nat} (hn : n ≤ 32) : sext (a.extractLsb' 0 n) = BitVec.ofInt 32 (a.setWidth n).toInt := by
  rw [BitVec.setWidth_eq_extractLsb' hn, sext_eq_ofInt]

theorem zext_low_eq_ofNat (a : Word) (n : Nat) : zext (a.extractLsb' 0 n) = BitVec.ofNat 32 (a.toNat % 2 ^ n) := by
  rw [zext, ← BitVec.ofNat_toNat, field_toNat, Nat.pow_zero, Nat.div_one]

/-- Settles O9: the low part is the same number in 32 bits. -/
theorem extensionsKeepTheLowPart : Obligations.ExtensionsKeepTheLowPart := by
  intro s rd ra cu gives
  refine ⟨decodes_spSlot (f := 0x2C#6) rfl rfl, yieldsReg_of_putLogic rfl (sext_low_eq_ofInt _ (by decide)), decodes_spSlot (f := 0x2D#6) rfl rfl,
    yieldsReg_of_putLogic rfl (sext_low_eq_ofInt _ (by decide)), decodes_spSlot (f := 0x2E#6) rfl rfl,
    yieldsReg_of_putLogic rfl (zext_low_eq_ofNat _ 8),
    decodes_spSlot (f := 0x2F#6) rfl rfl, yieldsReg_of_putLogic rfl (zext_low_eq_ofNat _ 16)⟩

/-! ## Immediate forms -/

theorem add_ofInt (a : Word) (v : Int) : a + BitVec.ofInt 32 v = BitVec.ofInt 32 (a.toNat + v) := by
  rw [BitVec.ofInt_add, BitVec.ofInt_natCast, BitVec.ofNat_toNat, BitVec.setWidth_eq]

theorem add_ofNat (a : Word) (v : Nat) : a + BitVec.ofNat 32 v = BitVec.ofNat 32 (a.toNat + v) := by
  rw [BitVec.ofNat_add, BitVec.ofNat_toNat, BitVec.setWidth_eq]

/-- Settles O10: each form writes one register, and no flag. -/
theorem immediateFormsWriteNoFlag : Obligations.ImmediateFormsWriteNoFlag := by
  intro s rd ra imm16 imm14 i u r gives
  have hu : immShifted imm16 = u := immShifted_eq_ofNat imm16
  refine ⟨yieldsReg_of_setX_goto rfl (add_ofInt _ _), yieldsReg_of_setX rfl, yieldsReg_of_setX rfl, yieldsReg_of_setX rfl,
    yieldsReg_of_setX_goto rfl ?addis, yieldsReg_of_setX_goto rfl ?andis, yieldsReg_of_setX_goto rfl ?oris, yieldsReg_of_setX_goto rfl hu,
    yieldsReg_of_setX_goto rfl (add_ofInt _ _), yieldsReg_of_setX rfl, yieldsReg_of_setX rfl⟩
  case addis => rw [hu, add_ofNat]
  case andis | oris => rw [hu]

/-! ## R143: the rows that write flags -/

/-- A load leaves the flags, whether or not it also updates its base (R260). -/
theorem State.flags_of_load {s u : State} {a : Word} {sz : Size} (h : u = { (s.memRead a sz).2 with regs := u.regs }) (pc : Word) :
    (u.goto pc).flags = s.flags := by
  rw [h]
  exact s.memRead_flags a sz

theorem State.flags_branch (s : State) (taken link : Bool) (target fall : Word) : (s.branch taken link target fall).flags = s.flags := by
  rw [(s.branch_spec taken link target fall).2.2]

/-- Settles O12: an instruction of the table computes with CU = 0 here, and every other ends in operations that leave the flags. -/
theorem onlyTheTableWritesFlags : Obligations.OnlyTheTableWritesFlags := by
  intro i s t hw h
  cases i
  case add | addc | sub | subc | neg | and | or | not | xor | bitclr | bitset | bittgl | sll | srl | sra | ror | rorc | rol | rolc
      | slli | srli | srai | rori | roric | roli | rolic | extsb | extsh | extzb | extzh =>
    obtain rfl := Host.Outcome.next.inj h
    exact if_neg (Bool.eq_false_iff.1 hw)
  case cmpCc | cmpzCc | cmpi | cmpis | cmp16 | bittst | bittst16 | tCc | tCc16 | rte => cases hw
  case mtsr sb ra =>
    obtain rfl := Host.Outcome.next.inj h
    rw [State.advance32, State.goto_flags, s.setSr_of_ne sb _ (beq_eq_false_iff_ne.1 hw)]
  case j | jl | bCc | bCcL | brCc | brCcL | j16 | jl16 | bCc16 | brCc16 | brCcL16 =>
    obtain rfl := Host.Outcome.next.inj h
    exact s.flags_branch ..
  case lw | lh | lhu | lb | lbu | lwRix | lhRix | lhuRix | lbRix | lbuRix | lw16 | lh16 | lbu16 | lwp16 | lhp16 | lbup16 =>
    obtain rfl := Host.Outcome.next.inj h
    exact State.flags_of_load (s.load_spec ..).2.2 _
  case lwPre | lhPre | lhuPre | lbPre | lbuPre | pop16 =>
    obtain rfl := Host.Outcome.next.inj h
    exact State.flags_of_load (s.loadUpdate_spec ..).2.2.2 _
  case sw | sh | sb | swRix | shRix | sbRix | sw16 | sh16 | sb16 | swp16 | shp16 | sbp16 | swPre | shPre | sbPre
      | push16 =>
    obtain rfl := Host.Outcome.next.inj h
    exact State.memWrite_flags ..
  case trapCc c =>
    simp only [exec_trapCc, execTrapCc] at h
    split at h
    all_goals
      obtain rfl := Host.Outcome.next.inj h
      rfl
  case mvCc | div | divu | mfce | mtce | mfce16 | mtce16 =>
    obtain rfl := Host.Outcome.next.inj h
    split <;> rfl
  all_goals
    obtain rfl := Host.Outcome.next.inj h
    rfl

/-! ## The properties P1 to P3 (R191) -/

/-- Settles O11: P1 is O1 at r1, r2, r3; P2 is a difference of equals; P3 reads bits. -/
theorem aluPropertiesP1P2P3 : Obligations.AluPropertiesP1P2P3 := by
  refine ⟨?p1, ?p2, fun u n hn => ⟨?sll, ?sra, rotRight_rotLeft u hn⟩⟩
  case p1 =>
    rintro s _ _ rfl rfl
    obtain ⟨-, t, ht, hrd, -, hflags, -⟩ := addGivesSumAndFlags 1#5 2#5 3#5 true s
    refine ⟨t, ht, ?sum, ?negative, ?zero⟩
    case sum => rw [hrd, BitVec.toNat_ofNat]
    case negative => rw [hflags, hrd]; exact toNat_decide_le _
    case zero => rw [hflags, hrd]; exact decide_eq_true_iff
  case p2 =>
    intro s ra
    obtain ⟨t, ht, hrd, -, hflags, -⟩ := yieldsReg_of_putArith (i := .sub 1#5 ra ra true) rfl (subF_self (s.x ra))
    exact ⟨t, ht, hrd, hflags⟩
  case sll => rw [shiftLeft_eq_ofNat, BitVec.toNat_ofNat]
  case sra => rw [getLsbD_31_eq_msb, getLsbD_31_eq_msb, shiftRightArith, BitVec.msb_sshiftRight]

end Sys2Proof.Machine
end

section
/-!
PROOFS. Multiply, divide and the accumulator (spec/41_muldiv_ce.md): the ignored fields of the slots, the exact 64-bit products, and that
nothing but the six instructions of R226 writes CEL or CEH.
-/

namespace Sys2Proof.Machine

open Claims

/-! ## A slot with ignored fields (R220 to R225) -/

/-- The fields the form leaves out of the instruction may hold anything. -/
theorem decodes_spSlot_of_decodeSp {i : Instr} {base : Word} {f : BitVec 6} {rd ra rb : Reg} {cu : Bool} (hbase : base = place 32 f 1)
    (hi : decodeSp (spForm f rd ra rb cu) = .ok i) : Decodes (spSlot base rd ra rb cu) i := by
  rw [hbase, spSlot_eq_spForm]
  exact decodeSlot_of_decode32 ((decode32_spForm f rd ra rb cu).trans hi)

theorem decodeSp_mul (rd ra rb : Reg) (cu : Bool) : decodeSp (spForm 0x20#6 rd ra rb cu) = .ok (.mul ra rb) := by
  simp [decodeSp, spForm_field_1]

theorem decodeSp_mulu (rd ra rb : Reg) (cu : Bool) : decodeSp (spForm 0x21#6 rd ra rb cu) = .ok (.mulu ra rb) := by
  simp [decodeSp, spForm_field_1]

/-! ## The products (R220, R221) -/

/-- An instruction that ends by putting a product leaves it in CEH:CEL modulo 2^64. -/
theorem yieldsCe_of_putProduct {i : Instr} {s : State} {p : Int} (h : exec i s = done32 (s.putProduct p)) :
    ∃ lo hi, YieldsCe i s lo hi (s.pc + 4#32) ∧ hi ++ lo = BitVec.ofInt 64 p :=
  ⟨_, _, ⟨_, h, fun _ => rfl, rfl⟩, (s.putProduct_spec p).1⟩

/-- A product of two signed words lies between -2^62 and 2^62 (R220), which 64 bits hold. -/
theorem toInt_ofInt_mul_toInt (a b : Word) : (BitVec.ofInt 64 (a.toInt * b.toInt)).toInt = a.toInt * b.toInt := by
  have hle : a.toInt * b.toInt ≤ 2 ^ 62 := BitVec.toInt_mul_toInt_le
  have hge : -(2 ^ 62) ≤ a.toInt * b.toInt := BitVec.le_toInt_mul_toInt
  exact BitVec.toInt_ofInt_eq_self (by decide) (by omega) (by omega)

theorem toNat_ofInt_mul_toNat (a b : Word) : (BitVec.ofInt 64 (a.toNat * b.toNat)).toNat = a.toNat * b.toNat := by
  have hlt : a.toNat * b.toNat < 2 ^ 32 * 2 ^ 32 := Nat.mul_lt_mul'' a.isLt b.isLt
  rw [← Int.natCast_mul, BitVec.ofInt_natCast, BitVec.toNat_ofNat]
  exact Nat.mod_eq_of_lt hlt

/-- Settles O13: CEH:CEL is the product modulo 2^64, and the product fits 64 bits. -/
theorem productsAreExact : Obligations.ProductsAreExact := by
  intro s ra rb rd cu
  refine ⟨decodes_spSlot_of_decodeSp rfl (decodeSp_mul rd ra rb cu), ?mul,
    decodes_spSlot_of_decodeSp rfl (decodeSp_mulu rd ra rb cu), ?mulu⟩
  case mul =>
    obtain ⟨lo, hi, hyields, hp⟩ := yieldsCe_of_putProduct (i := .mul ra rb) (s := s) rfl
    exact ⟨lo, hi, hyields, by rw [hp, toInt_ofInt_mul_toInt]⟩
  case mulu =>
    obtain ⟨lo, hi, hyields, hp⟩ := yieldsCe_of_putProduct (i := .mulu ra rb) (s := s) rfl
    exact ⟨lo, hi, hyields, by rw [hp, toNat_ofInt_mul_toNat]⟩

/-! ## What leaves the accumulator alone (R226) -/

theorem State.ce_of_load {s u : State} {a : Word} {sz : Size} (h : u = { (s.memRead a sz).2 with regs := u.regs }) (pc : Word) :
    (u.goto pc).cel = s.cel ∧ (u.goto pc).ceh = s.ceh := by
  rw [h]
  exact ⟨s.memRead_cel a sz, s.memRead_ceh a sz⟩

theorem State.ce_branch (s : State) (taken link : Bool) (target fall : Word) :
    (s.branch taken link target fall).cel = s.cel ∧ (s.branch taken link target fall).ceh = s.ceh := by
  rw [(s.branch_spec taken link target fall).2.2]
  exact ⟨rfl, rfl⟩

/-- An instruction outside the six of R226 ends in operations that leave CEL and CEH. -/
theorem exec_keeps_ce {i : Instr} {s t : State} (hw : writesAccumulator i = false) (h : exec i s = .next t) :
    t.cel = s.cel ∧ t.ceh = s.ceh := by
  cases i
  case mul | mulu | div | divu | mtce | mtce16 => cases hw
  case j | jl | bCc | bCcL | brCc | brCcL | j16 | jl16 | bCc16 | brCc16 | brCcL16 =>
    obtain rfl := Host.Outcome.next.inj h
    exact s.ce_branch ..
  case lw | lh | lhu | lb | lbu | lwRix | lhRix | lhuRix | lbRix | lbuRix | lw16 | lh16 | lbu16 | lwp16 | lhp16 | lbup16 =>
    obtain rfl := Host.Outcome.next.inj h
    exact State.ce_of_load (s.load_spec ..).2.2 _
  case lwPre | lhPre | lhuPre | lbPre | lbuPre | pop16 =>
    obtain rfl := Host.Outcome.next.inj h
    exact State.ce_of_load (s.loadUpdate_spec ..).2.2.2 _
  case sw | sh | sb | swRix | shRix | sbRix | sw16 | sh16 | sb16 | swp16 | shp16 | sbp16 | swPre | shPre | sbPre
      | push16 =>
    obtain rfl := Host.Outcome.next.inj h
    exact ⟨State.memWrite_cel .., State.memWrite_ceh ..⟩
  case mtsr sb ra =>
    obtain rfl := Host.Outcome.next.inj h
    exact ⟨s.setSr_cel sb _, s.setSr_ceh sb _⟩
  case trapCc c =>
    simp only [exec_trapCc, execTrapCc] at h
    split at h
    all_goals
      obtain rfl := Host.Outcome.next.inj h
      exact ⟨rfl, rfl⟩
  case mvCc | mfce | mfce16 =>
    obtain rfl := Host.Outcome.next.inj h
    constructor <;> (split <;> rfl)
  all_goals
    obtain rfl := Host.Outcome.next.inj h
    exact ⟨rfl, rfl⟩

/-- Settles O16: no arm but the six writers' reaches CEL or CEH, and entry writes control registers and pc alone (R401). -/
theorem onlySixInstructionsWriteCe : Obligations.OnlySixInstructionsWriteCe :=
  ⟨fun _ _ _ hw h => exec_keeps_ce hw h, fun c s => ⟨s.enter_cel c, s.enter_ceh c⟩⟩

end Sys2Proof.Machine
end

section
/-!
PROOFS. Control transfer (spec/42_control.md): what an instruction that ends in a branch does, a jump's target as a number, and the slots of `j`
and `jl`.
-/

namespace Sys2Proof.Machine

open Claims

/-! ## What an instruction that ends in a branch does -/

theorem transfers_of_branch {i : Instr} {s : State} {taken link : Bool} {target target' fall : Word}
    (h : exec i s = .next (s.branch taken link target fall)) (htarget : target = target') : Transfers i s taken link target' fall := by
  subst htarget
  obtain ⟨hpc, hregs, hframe⟩ := s.branch_spec taken link target fall
  have hmem : SameMemory s (s.branch taken link target fall) := by
    rw [hframe]
    exact fun _ => rfl
  exact ⟨_, h, hpc, hregs, hmem, hframe⟩

/-! ## The target of a jump (R105, R337) -/

/-- A displacement counts halfwords, and fits below the bits of pc that stay: the two parts add up. -/
theorem keepUpper_or_halfwords_eq_ofNat {n : Nat} (pc : Word) (disp : BitVec n) (hn : n + 1 ≤ 32) :
    pc &&& BitVec.allOnes 32 <<< (n + 1) ||| zext disp <<< 1
      = BitVec.ofNat 32 (pc.toNat / 2 ^ (n + 1) * 2 ^ (n + 1) + disp.toNat * 2) := by
  have hlow : disp.toNat * 2 < 2 ^ (n + 1) := by
    rw [pow_succ]
    exact Nat.mul_lt_mul_of_pos_right disp.isLt (by decide)
  have hfit : disp.toNat * 2 < 2 ^ 32 := hlow.trans_le (Nat.pow_le_pow_right (by decide) hn)
  have hdisp : (zext disp <<< 1).toNat = disp.toNat * 2 := by
    rw [zext, BitVec.toNat_shiftLeft, BitVec.toNat_setWidth_of_le (by omega), Nat.shiftLeft_eq, pow_one, Nat.mod_eq_of_lt hfit]
  have hsum : (pc &&& BitVec.allOnes 32 <<< (n + 1) ||| zext disp <<< 1).toNat
      = pc.toNat / 2 ^ (n + 1) * 2 ^ (n + 1) + disp.toNat * 2 := by
    rw [BitVec.toNat_or, toNat_and_allOnes_shiftLeft, hdisp, ← Nat.shiftLeft_eq (_ / _), Nat.shiftLeft_add_eq_or_of_lt hlow]
  rw [← hsum, BitVec.ofNat_toNat, BitVec.setWidth_eq]

/-- The mask of R240 keeps the bits from 25 up. -/
theorem jumpTarget_eq_ofNat (pc : Word) (disp : BitVec 24) :
    jumpTarget pc disp = BitVec.ofNat 32 (pc.toNat / 2 ^ 25 * 2 ^ 25 + disp.toNat * 2) :=
  keepUpper_or_halfwords_eq_ofNat pc disp (by decide)

/-! ## The slots of the J-form (R105) -/

/-- A J-form slot as R240 and R241 write it: OP and LK in the base, the displacement above bit 0. -/
theorem decodes_jSlot {i : Instr} {base : Word} {disp : BitVec 24} {lk : Bool}
    (hbase : base = place 32 2#5 27 ||| place 32 (BitVec.ofBool lk) 0) (hi : encoding i = .word (jForm disp lk)) :
    Decodes (base ||| (disp.setWidth 32 <<< 1)) i := by
  have hslot : base ||| place 32 disp 1 = jForm disp lk := by
    rw [hbase, jForm, BitVec.or_assoc, BitVec.or_assoc, BitVec.or_comm (place 32 disp 1)]
  show Decodes (base ||| place 32 disp 1) i
  rw [hslot]
  exact decodeSlot_of_decode32 (decode32_encoding hi)

/-- Settles O18: a jump is a branch always taken, to pc's upper seven bits and the displacement. -/
theorem jumpsReplaceLowBits : Obligations.JumpsReplaceLowBits := fun s disp =>
  have htarget := jumpTarget_eq_ofNat s.pc disp
  ⟨decodes_jSlot (lk := false) rfl rfl, transfers_of_branch rfl htarget,
    decodes_jSlot (lk := true) rfl rfl, transfers_of_branch rfl htarget⟩

end Sys2Proof.Machine
end

section
/-!
PROOFS. The system instructions (spec/44_system.md): which words are `nop` and what a step over one does, and `rte` as the inverse of an exception
entry on the flags and pc.
-/

namespace Sys2Proof.Machine

open Claims

/-! ## `nop` (R290) -/

/-- OP and func6 alone say `nop`: the other bits of the slot are not looked at. -/
theorem decodes_nop {slot : Word} (hop : slot.extractLsb' 27 5 = 0#5) (hfunc6 : slot.extractLsb' 1 6 = 0#6) : Decodes slot .nop := by
  have hsp : decode32 slot = decodeSp slot := by simp only [decode32, opField, hop]
  have hnop : decodeSp slot = .ok .nop := by simp only [decodeSp, hfunc6]
  exact decodeSlot_of_decode32 (hsp.trans hnop)

theorem decodes_nop_of_unmapped {addr : Word} (h : Config.regionOf (segmentOf addr) = none) (s : State) :
    Decodes (s.memRead addr .word).1 .nop := by
  rw [s.memRead_of_unmapped h]
  exact decodeSlot_zero

theorem Memory.littleEndian_of_zero {m : Memory} {a n : Nat} (h : ∀ k, k < n → m.read (a + k) = 0#8) : m.littleEndian a n = 0 := by
  induction n with
  | zero => rfl
  | succ n ih =>
    rw [Memory.littleEndian_succ, ih fun k hk => h k (hk.trans n.lt_succ_self), h n n.lt_succ_self]
    simp

/-- A word of zero bytes in flash is fetched as the slot 0, and the fetch changes nothing. -/
theorem State.fetch_of_zero_in_flash {s : State} (hlo : 0x9E000000 ≤ s.pc.toNat) (hhi : s.pc.toNat < 0x9E800000)
    (h : ∀ k, k < 4 → s.mem.read (s.pc.toNat / 4 * 4 + k) = 0#8) : s.fetch = (0#32, s) := by
  obtain ⟨hstate, hvalue⟩ := (backingReadsAreLittleEndian s s.pc 0#32 .word).1 (.inl ⟨hlo, hhi⟩)
  have hzero : (s.memRead s.pc .word).1.toNat = 0 := hvalue.trans (Memory.littleEndian_of_zero h)
  exact Prod.ext (BitVec.eq_of_toNat_eq hzero) hstate

/-- A step over the slot 0 is the advance and the counters. -/
theorem cpuStep_of_fetch_zero {s : State} (hh : s.halted = false) (hf : s.fetch = (0#32, s)) : s.cpuStep = .next s.advance32.countStep := by
  have hnop : decodeSlot s.fetch.1 (s.pc.getLsbD 1) s.flags.t = .ok .nop := by rw [hf, decodeSlot_zero]
  rw [cpuStep_of_decoded hh hnop, hf]
  rfl

/-- Settles O31: OP and func6 of `nop` are 0, as in the word an unmapped segment reads as and in four zero bytes of flash. -/
theorem nopOnlyAdvances : Obligations.NopOnlyAdvances := by
  refine ⟨fun s slot addr => ⟨decodes_nop, (decodes_nop_of_unmapped · s), ⟨_, rfl, fun _ => rfl, rfl⟩⟩, fun s hh hpc hzero => ?step⟩
  case step =>
    have hfetch : s.fetch = (0#32, s) :=
      State.fetch_of_zero_in_flash (by rw [hpc]; decide) (by rw [hpc]; decide) (by rw [hpc]; exact hzero)
    rw [cpuStep_of_fetch_zero hh hfetch, State.advance32, hpc]
    rfl

/-! ## `rte` and exception entry (R295, R403) -/

/-- Entry saves the flags in cr1 (R401, step 1); its later steps write other registers. -/
theorem State.cr_enter_flags (s : State) (c : Cause) : (s.enter c).cr 1#5 = s.flags.pack := by
  simp [State.enter, State.cr_setCr]

/-- Entry saves the pc in cr5 (R401, step 3). -/
theorem State.cr_enter_pc (s : State) (c : Cause) : (s.enter c).cr 5#5 = s.pc := by
  simp [State.enter, State.cr_setCr]

theorem yieldsFlags_rte (s : State) : YieldsFlags .rte s (Flags.unpack (s.cr 1#5)) (s.cr 5#5) :=
  yieldsFlags_of_setFlags rfl rfl

/-- Settles O35: after an entry cr1 and cr5 hold the packed flags and the pc of before, and unpacking undoes packing. -/
theorem rteRestoresFlagsAndPc : Obligations.RteRestoresFlagsAndPc := by
  refine ⟨yieldsFlags_rte, fun s c => ?undoes⟩
  have hrte := yieldsFlags_rte (s.enter c)
  rwa [s.cr_enter_flags c, s.cr_enter_pc c, Flags.unpack_pack] at hrte

end Sys2Proof.Machine
end

section
/-!
PROOFS. Exceptions and interrupts (spec/60_exceptions.md): what an exception entry leaves in each control register and in pc, which instructions enter,
the latch and the gates of `trigger`, and the interrupt controller's four words with their lanes.
-/

namespace Sys2Proof.Machine

open Claims

/-! ## Exception entry (R401) -/

/-- R401, steps 2 to 5: the four control registers an entry writes, the last written first, and every other as it was. -/
theorem State.cr_enter (s : State) (c : Cause) (j : Reg) :
    (s.enter c).cr j =
      if j = 0#5 then s.cr 0#5 &&& 0xFFFFFFFE#32
      else if j = 5#5 then s.pc
      else if j = 2#5 then (s.cr 2#5 &&& 0xFF03FFFF#32) ||| place 32 c 18
      else if j = 1#5 then s.flags.pack
      else s.cr j := by
  simp [State.enter, State.cr_setCr]

/-- R401, step 6, in integers: four bytes of the vector table a cause. -/
theorem State.enter_pc_eq_ofNat (s : State) (c : Cause) : (s.enter c).pc = BitVec.ofNat 32 ((s.cr 3#5).toNat + 4 * c.toNat) := by
  have hvector : (s.enter c).pc = s.cr 3#5 + 4#32 * zext c := by simp [State.enter, State.goto, State.cr_setCr]
  have hoffset : 4#32 * zext c = BitVec.ofNat 32 (4 * c.toNat) := by rw [zext, ← BitVec.ofNat_toNat, BitVec.ofNat_mul]
  rw [hvector, hoffset, add_ofNat]

/-- Settles O34: each clause is `State.cr_enter` at one register, the vector, or the frame of an entry. -/
theorem entrySavesAndVectors : Obligations.EntrySavesAndVectors := by
  intro s c
  refine ⟨s.cr_enter_flags c, s.cr_enter c 2#5, s.cr_enter_pc c, s.cr_enter c 0#5, s.enter_pc_eq_ofNat c, ?image, ?others, s.enter_state c⟩
  case image => rw [State.sr_enter, s.cr_enter_flags c, State.sr, if_pos rfl]
  case others =>
    intro j hj
    simp only [List.mem_cons, List.not_mem_nil, or_false, not_or] at hj
    obtain ⟨h0, h1, h2, h5⟩ := hj
    rw [s.cr_enter, if_neg h0, if_neg h5, if_neg h2, if_neg h1]

/-! ## The instructions that enter (R296, R297, R341) -/

theorem exec_trapCc_of_holds {c : Cond} {s : State} (h : condHolds c s.flags = true) : exec (.trapCc c) s = .next (s.enter 33#6) := by
  rw [exec_trapCc, execTrapCc, if_pos h]
  exact raise_spec s _

theorem exec_trapCc_of_fails {c : Cond} {s : State} (h : condHolds c s.flags = false) : exec (.trapCc c) s = done32 s := by
  rw [exec_trapCc, execTrapCc, h, if_neg Bool.false_ne_true]

/-- Settles O36: the breakpoints raise cause 32 in every state, and a trap by its condition. -/
theorem trapsAndBreakpointsEnter : Obligations.TrapsAndBreakpointsEnter := fun s _ _ =>
  ⟨raise_spec s _, raise_spec s _, exec_trapCc_of_holds,
    fun h => ⟨_, (exec_trapCc_of_fails h).trans (done32_spec s), fun _ => rfl, rfl⟩⟩

/-! ## `trigger` (R406, R407) -/

/-- R406, step 1: the line's bit of STATUS is set. -/
def State.latch (s : State) (n : BitVec 5) : State :=
  { s with intc := { s.intc with status := s.intc.status ||| BitVec.ofNat 32 (2 ^ n.toNat) } }

theorem one_shiftLeft_eq_ofNat (k : Nat) : 1#32 <<< k = BitVec.ofNat 32 (2 ^ k) := by
  apply BitVec.eq_of_toNat_eq
  rw [BitVec.toNat_shiftLeft, BitVec.toNat_ofNat, BitVec.toNat_ofNat, Nat.one_mod_two_pow (by decide), Nat.one_shiftLeft]

theorem lineCause_eq_ofNat (n : BitVec 5) : lineCause n = BitVec.ofNat 6 n.toNat := (BitVec.ofNat_toNat 6 n).symm

theorem State.latch_status_bit (s : State) (n : BitVec 5) : (s.latch n).intc.status.getLsbD n.toNat = true := by
  have hn : n.toNat < 32 := n.isLt
  rw [State.latch, ← one_shiftLeft_eq_ofNat, ← BitVec.twoPow_eq, BitVec.getLsbD_or, BitVec.getLsbD_twoPow]
  simp [hn]

/-- A triggered line is latched, and enters the CPU where both gates are open. -/
theorem State.trigger_eq (s : State) (n : BitVec 5) :
    s.trigger n =
      if s.intc.mask.getLsbD n.toNat && (s.cr 0#5).getLsbD 0 then (s.latch n).enter (BitVec.ofNat 6 n.toNat) else s.latch n := by
  rw [State.latch, ← one_shiftLeft_eq_ofNat, ← lineCause_eq_ofNat]
  rfl

theorem State.trigger_intc (s : State) (n : BitVec 5) : (s.trigger n).intc = (s.latch n).intc := by
  rw [State.trigger_eq]
  split <;> simp

/-- Settles O38: the latch stands whatever the gates are, and a closed gate of either kind leaves it alone. -/
theorem triggerLatchesThenGates : Obligations.TriggerLatchesThenGates := by
  intro s n
  refine ⟨?latched, fun hmask => ?masked, fun hie => ?disabled, fun hmask hie => ?enters⟩
  case latched => rw [State.trigger_intc]; exact s.latch_status_bit n
  case masked => rw [State.trigger_eq, hmask, Bool.false_and]; rfl
  case disabled => rw [State.trigger_eq, hie, Bool.and_false]; rfl
  case enters => rw [State.trigger_eq, hmask, hie]; rfl

/-! ## The lanes of any I/O word (R71) -/

theorem mergeLane_word (old : Word) (off : BitVec 24) (v : Word) : mergeLane old off .word v = v := by
  have hall (w : Word) : w &&& 0xFFFFFFFF#32 = w := BitVec.and_allOnes
  simp [mergeLane, laneShift, sizeMask, hall]

theorem mergeLane_zero_byte (off : BitVec 24) (v : Word) :
    mergeLane 0#32 off .byte v = (v &&& 0xFF#32) <<< (8 * (off.toNat % 4)) := by
  simp [mergeLane, sizeMask, laneShift_eq, Size.bytes]

theorem and_sizeMask_toNat (w : Word) (sz : Size) : (w &&& sizeMask sz).toNat = w.toNat % 256 ^ sz.bytes := by
  cases sz with
  | byte => exact Nat.and_two_pow_sub_one_eq_mod w.toNat 8
  | half => exact Nat.and_two_pow_sub_one_eq_mod w.toNat 16
  | word => exact Nat.and_two_pow_sub_one_eq_mod w.toNat 32

/-- A read of any width gives its lane of the word, in integers. -/
theorem mmioLoad_eq_ofNat (off : BitVec 24) (sz : Size) (s : State) :
    mmioLoad off sz s = (BitVec.ofNat 32 ((mmioRead (mmioWord (wordIndex off)) s).1.toNat
      / 256 ^ (off.toNat % 4 / sz.bytes * sz.bytes) % 256 ^ sz.bytes), (mmioRead (mmioWord (wordIndex off)) s).2) := by
  refine Prod.ext (BitVec.eq_of_toNat_eq ?_) rfl
  have hpow (k : Nat) : 2 ^ (8 * k) = 256 ^ k := by rw [pow_mul]; rfl
  have hlane := and_sizeMask_toNat ((mmioRead (mmioWord (wordIndex off)) s).1 >>> laneShift off sz) sz
  rw [BitVec.toNat_ushiftRight, Nat.shiftRight_eq_div_pow, laneShift_eq, hpow] at hlane
  rw [← hlane, BitVec.ofNat_toNat, BitVec.setWidth_eq, ← laneShift_eq]
  rfl

/-- Where the reader has no side effect, a write of any width is a read-modify-write of the word. -/
theorem mmioStore_of_pure_read {off : BitVec 24} {s : State} (h : (mmioRead (mmioWord (wordIndex off)) s).2 = s) (sz : Size) (v : Word) :
    mmioStore off sz v s
      = mmioWrite (mmioWord (wordIndex off)) (mergeLane (mmioRead (mmioWord (wordIndex off)) s).1 off sz v) s := by
  cases sz with
  | word => rw [mergeLane_word]; rfl
  | byte | half => simp only [mmioStore, h]

theorem State.memRead_word_of_mmio {a : Word} (h : Config.regionOf (segmentOf a) = some .mmio) (s : State) :
    s.memRead (a &&& 0xFFFFFFFC#32) .word = mmioRead (mmioWord (wordIndex (offsetOf a))) s := by
  have hunit : a &&& 0xFFFFFFFC#32 = unitAddress a .word := by
    apply BitVec.eq_of_toNat_eq
    rw [unitAddress_toNat]
    exact toNat_and_allOnes_shiftLeft a 2
  rw [hunit, State.memRead_unitAddress, State.memRead_of_mmio h, mmioLoad_word]

/-! ## The interrupt controller's words (R405) -/

/-- An address of the interrupt controller's 16 bytes. -/
def inIntc (a : Word) : Prop := a.toNat / 16 = 0x080A000

section InIntc

variable {a : Word} (h : inIntc a)
include h

theorem regionOf_inIntc : Config.regionOf (segmentOf a) = some .mmio := regionOf_io (by unfold inIntc at h; omega)

theorem wordIndex_inIntc : wordIndex (offsetOf a) = BitVec.ofNat 16 (0x8000 + a.toNat % 16 / 4) := by
  apply BitVec.eq_of_toNat_eq
  unfold inIntc at h
  rw [wordIndex_toNat, offsetOf_toNat, BitVec.toNat_ofNat]
  omega

/-- No word of the controller has a side effect on a read. -/
theorem mmioRead_state_inIntc (s : State) : (mmioRead (mmioWord (wordIndex (offsetOf a))) s).2 = s := by
  rw [wordIndex_inIntc h]
  have hword : a.toNat % 16 / 4 < 4 := by omega
  generalize a.toNat % 16 / 4 = k at hword ⊢
  interval_cases k <;> rfl

theorem State.memWrite_inIntc (s : State) (sz : Size) (v : Word) :
    s.memWrite a sz v = mmioWrite (mmioWord (wordIndex (offsetOf a)))
      (mergeLane (s.memRead (a &&& 0xFFFFFFFC#32) .word).1 (offsetOf a) sz v) s := by
  rw [s.memWrite_of_mmio (regionOf_inIntc h), mmioStore_of_pure_read (mmioRead_state_inIntc h s),
    s.memRead_word_of_mmio (regionOf_inIntc h)]

theorem State.memRead_inIntc (s : State) (sz : Size) :
    s.memRead a sz = (BitVec.ofNat 32 ((s.memRead (a &&& 0xFFFFFFFC#32) .word).1.toNat
      / 256 ^ (a.toNat % 4 / sz.bytes * sz.bytes) % 256 ^ sz.bytes), s) := by
  have hlow : (offsetOf a).toNat % 4 = a.toNat % 4 := by rw [offsetOf_toNat]; omega
  rw [s.memRead_of_mmio (regionOf_inIntc h), mmioLoad_eq_ofNat, mmioRead_state_inIntc h, s.memRead_word_of_mmio (regionOf_inIntc h), hlow]

end InIntc

/-- A word read of an I/O address is the reader of its word. -/
theorem State.memRead_word_eq {a : Word} {w : MmioWord} (hreg : Config.regionOf (segmentOf a) = some .mmio)
    (hw : mmioWord (wordIndex (offsetOf a)) = w) (s : State) : s.memRead a .word = mmioRead w s := by
  rw [s.memRead_of_mmio hreg, mmioLoad_word, hw]

/-- A word write of an I/O address is the writer of its word. -/
theorem State.memWrite_word_eq {a : Word} {w : MmioWord} (hreg : Config.regionOf (segmentOf a) = some .mmio)
    (hw : mmioWord (wordIndex (offsetOf a)) = w) (s : State) (v : Word) : s.memWrite a .word v = mmioWrite w v s := by
  rw [s.memWrite_of_mmio hreg, ← hw]
  rfl

/-- Byte b of the controller's word k. -/
theorem toNat_intc_byte {k b : Nat} (hk : k < 4) (hb : b < 4) :
    (BitVec.ofNat 32 (0x080A0000 + 4 * k) + BitVec.ofNat 32 b).toNat = 0x080A0000 + 4 * k + b := by
  rw [← BitVec.ofNat_add, BitVec.toNat_ofNat, Nat.mod_eq_of_lt (by omega)]

theorem memWrite_byte_status {b : Nat} (hb : b < 4) (s : State) (v : Word) :
    s.memWrite (0x080A0008#32 + BitVec.ofNat 32 b) .byte v = s := by
  have haddr : (0x080A0008#32 + BitVec.ofNat 32 b).toNat = 0x080A0008 + b := toNat_intc_byte (k := 2) (by decide) hb
  have hin : inIntc (0x080A0008#32 + BitVec.ofNat 32 b) := by unfold inIntc; omega
  have hstatus : (0x080A0008#32 + BitVec.ofNat 32 b).toNat % 16 / 4 = 2 := by omega
  rw [s.memWrite_inIntc hin, wordIndex_inIntc hin, hstatus]
  rfl

theorem memWrite_byte_ack {b : Nat} (hb : b < 4) (s : State) (v : Word) :
    s.memWrite (0x080A000C#32 + BitVec.ofNat 32 b) .byte v
      = { s with intc := { s.intc with status := s.intc.status &&& ~~~((v &&& 0xFF#32) <<< (8 * b)) } } := by
  have haddr : (0x080A000C#32 + BitVec.ofNat 32 b).toNat = 0x080A000C + b := toNat_intc_byte (k := 3) (by decide) hb
  have hin : inIntc (0x080A000C#32 + BitVec.ofNat 32 b) := by unfold inIntc; omega
  have hack : (0x080A000C#32 + BitVec.ofNat 32 b).toNat % 16 / 4 = 3 := by omega
  have hlane : (offsetOf (0x080A000C#32 + BitVec.ofNat 32 b)).toNat % 4 = b := by rw [offsetOf_toNat]; omega
  rw [s.memWrite_inIntc hin, s.memRead_word_of_mmio (regionOf_inIntc hin), wordIndex_inIntc hin, hack]
  have hmerge := mergeLane_zero_byte (offsetOf (0x080A000C#32 + BitVec.ofNat 32 b)) v
  rw [hlane] at hmerge
  exact congrArg (fun w => mmioWrite .intcAck w s) hmerge

/-- Settles O39: the word accesses are the readers and writers of the four words, and every other access is a lane of its word. -/
theorem interruptControllerRegisters : Obligations.InterruptControllerRegisters := fun s v =>
  ⟨s.memRead_word_eq (w := .intcMask) rfl rfl, s.memRead_word_eq (w := .intcPrio) rfl rfl, s.memRead_word_eq (w := .intcStatus) rfl rfl,
    s.memRead_word_eq (w := .intcAck) rfl rfl, s.memWrite_word_eq (w := .intcMask) rfl rfl v, s.memWrite_word_eq (w := .intcPrio) rfl rfl v,
    s.memWrite_word_eq (w := .intcStatus) rfl rfl v, s.memWrite_word_eq (w := .intcAck) rfl rfl v,
    fun _ hb => ⟨memWrite_byte_status hb s v, memWrite_byte_ack hb s v⟩,
    fun _ sz ha => ⟨s.memWrite_inIntc ha sz v, s.memRead_inIntc ha sz⟩, rfl⟩

end Sys2Proof.Machine
end

section
/-!
PROOFS. The devices (spec/61_devices.md): a tick of a timer channel as one update of it, the ticks of a count-up channel up to its compare value,
the register words of the timers, VDU and UART, the UART's queues, and each byte of a rendered picture.
-/

namespace Sys2Proof.Machine

open Claims

/-! ## One tick of a channel (R447) -/

/-- Clearing bit 0 (R442) leaves every other bit of CTRL. -/
theorem getLsbD_clear_enable (w : Word) {i : Nat} (h0 : i ≠ 0) (hi : i < 32) : (w &&& ~~~1#32).getLsbD i = w.getLsbD i := by
  rw [BitVec.getLsbD_and, BitVec.getLsbD_not, BitVec.getLsbD_one]
  simp [h0, hi]

theorem TimerChannel.irqEnable_disable (c : TimerChannel) : c.disable.irqEnable = c.irqEnable :=
  getLsbD_clear_enable c.ctrl (by decide) (by decide)

/-- COUNT after the arithmetic of a tick. -/
def TimerChannel.nextCount (c : TimerChannel) : Word :=
  if c.countDown then if c.count = 0#32 then if c.autoRepeat then c.cmp else 0#32 else c.count - 1#32
  else BitVec.ofNat 32 (c.count.toNat + 1)

theorem TimerChannel.nextCount_of_up {c : TimerChannel} (h : c.countDown = false) : c.nextCount = c.count + 1#32 := by
  rw [TimerChannel.nextCount, h, if_neg Bool.false_ne_true]
  exact (add_ofNat c.count 1).symm

/-- The arithmetic counts past an end: up to 0, or down from 0. -/
def TimerChannel.wraps (c : TimerChannel) : Bool :=
  if c.countDown then decide (c.count = 0#32) else decide (c.nextCount = 0#32)

/-- The channel with COUNT and overflow as the arithmetic leaves them, enable aside. -/
def TimerChannel.counted (c : TimerChannel) : TimerChannel := { c with count := c.nextCount, overflow := c.overflow || c.wraps }

theorem TimerChannel.counted_of_up {c : TimerChannel} (h : c.countDown = false) :
    c.counted = { c with count := c.count + 1#32, overflow := c.overflow || c.count + 1#32 == 0#32 } := by
  rw [TimerChannel.counted, TimerChannel.wraps, h, if_neg Bool.false_ne_true, TimerChannel.nextCount_of_up h]
  rfl

theorem TimerChannel.counted_of_zero {c : TimerChannel} (h : c.countDown = true) (hzero : c.count = 0#32) :
    c.counted = { c with overflow := true, count := if c.autoRepeat then c.cmp else c.count } := by
  simp [TimerChannel.counted, TimerChannel.wraps, TimerChannel.nextCount, h, hzero]

/-- R447 step 1: enable is cleared only where a one-shot channel counts down from 0. -/
theorem TimerChannel.advance_eq (c : TimerChannel) :
    c.advance = if !c.autoRepeat && (c.countDown && decide (c.count = 0#32)) then c.counted.disable else c.counted := by
  cases hdown : c.countDown with
  | false => simp [TimerChannel.advance, TimerChannel.counted_of_up hdown, hdown]
  | true =>
    by_cases hzero : c.count = 0#32
    · have hadvance : c.advance = if c.autoRepeat then { c with overflow := true, count := c.cmp }
          else ({ c with overflow := true } : TimerChannel).disable := by
        rw [TimerChannel.advance, if_pos hdown, if_pos hzero]
        rfl
      rw [hadvance, TimerChannel.counted_of_zero hdown hzero]
      cases hagain : c.autoRepeat <;> simp [hzero]
    · simp [TimerChannel.advance, TimerChannel.counted, TimerChannel.wraps, TimerChannel.nextCount, hdown, hzero]

/-- COUNT after the arithmetic of a tick is the compare value. -/
def TimerChannel.hits (c : TimerChannel) : Bool := decide (c.nextCount = c.cmp)

/-- A tick clears enable (R447): a one-shot channel hits its compare value or counts down from 0. -/
def TimerChannel.stops (c : TimerChannel) : Bool := !c.autoRepeat && (c.hits || (c.countDown && decide (c.count = 0#32)))

/-- The channel after a tick. -/
def TimerChannel.ticked (c : TimerChannel) : TimerChannel :=
  { c with
    count := c.nextCount, overflow := c.overflow || c.wraps, compareHit := c.compareHit || c.hits
    ctrl := if c.stops then c.ctrl &&& ~~~1#32 else c.ctrl }

/-- R447 step 2. -/
theorem TimerChannel.check_eq (c : TimerChannel) :
    c.check = ({ c with
      compareHit := c.compareHit || decide (c.count = c.cmp)
      ctrl := if !c.autoRepeat && decide (c.count = c.cmp) then c.ctrl &&& ~~~1#32 else c.ctrl },
      decide (c.count = c.cmp) && c.irqEnable) := by
  by_cases hit : c.count = c.cmp
  · rw [TimerChannel.check, if_pos hit]
    cases hagain : c.autoRepeat <;> simp [TimerChannel.disable, hit]
  · simp [TimerChannel.check, hit]

theorem TimerChannel.check_counted (c : TimerChannel) :
    c.counted.check = ({ c.counted with
      compareHit := c.compareHit || c.hits, ctrl := if !c.autoRepeat && c.hits then c.ctrl &&& ~~~1#32 else c.ctrl },
      c.hits && c.irqEnable) :=
  c.counted.check_eq

/-- Step 2 looks at bits of CTRL that clearing enable leaves, and clears enable itself at most once more. -/
theorem TimerChannel.check_counted_disable (c : TimerChannel) :
    c.counted.disable.check
      = ({ c.counted with compareHit := c.compareHit || c.hits, ctrl := c.ctrl &&& ~~~1#32 }, c.hits && c.irqEnable) := by
  have hirq : c.counted.disable.irqEnable = c.irqEnable := c.counted.irqEnable_disable
  have hclear : c.counted.ctrl &&& ~~~1#32 &&& ~~~1#32 = c.counted.ctrl &&& ~~~1#32 := by rw [BitVec.and_assoc, BitVec.and_self]
  rw [TimerChannel.check_eq, hirq]
  simp only [TimerChannel.disable, hclear, ite_self]
  rfl

/-- A tick is one update of the channel (R447). -/
theorem TimerChannel.tick_eq (c : TimerChannel) : c.tick = (c.ticked, c.hits && c.irqEnable) := by
  rw [TimerChannel.tick, TimerChannel.advance_eq]
  split
  · next hend =>
    obtain ⟨hagain, hzero⟩ := Bool.and_eq_true_iff.1 hend
    have hstops : c.stops = true := by rw [TimerChannel.stops, hagain, hzero, Bool.or_true, Bool.true_and]
    rw [TimerChannel.check_counted_disable, TimerChannel.ticked, hstops]
    rfl
  · next hrun =>
    have hstops : c.stops = (!c.autoRepeat && c.hits) := by
      rw [TimerChannel.stops, Bool.and_or_distrib_left, Bool.eq_false_iff.2 hrun, Bool.or_false]
    rw [TimerChannel.check_counted, TimerChannel.ticked, hstops]
    rfl

/-- `Tick(k)` in the machine (R447). -/
theorem State.tickChannel_eq (s : State) (k : ChannelId) :
    s.tickChannel k =
      let t := s.setTimers (s.timers.set k (s.timers.get k).ticked)
      if (s.timers.get k).hits && (s.timers.get k).irqEnable then t.trigger 5#5 else t := by
  rw [State.tickChannel, TimerChannel.tick_eq]
  rfl

/-- Settles O40: a tick is `ticked`, with a trigger where it hits and the IRQ is enabled. -/
theorem timerTickArithmeticThenCompare : Obligations.TimerTickArithmeticThenCompare := fun s k => s.tickChannel_eq k

/-! ## The channels of the block -/

@[simp] theorem TimerBlock.get_set (t : TimerBlock) (k : ChannelId) (c : TimerChannel) : (t.set k c).get k = c := by cases k <;> rfl

@[simp] theorem TimerBlock.set_set (t : TimerBlock) (k : ChannelId) (c d : TimerChannel) : (t.set k c).set k d = t.set k d := by
  cases k <;> rfl

@[simp] theorem TimerBlock.set_get (t : TimerBlock) (k : ChannelId) : t.set k (t.get k) = t := by cases k <;> rfl

/-- The state with one channel replaced. -/
def State.putChannel (s : State) (k : ChannelId) (c : TimerChannel) : State := s.setTimers (s.timers.set k c)

@[simp] theorem State.get_putChannel (s : State) (k : ChannelId) (c : TimerChannel) : (s.putChannel k c).timers.get k = c :=
  s.timers.get_set k c

@[simp] theorem State.putChannel_putChannel (s : State) (k : ChannelId) (c d : TimerChannel) :
    (s.putChannel k c).putChannel k d = s.putChannel k d :=
  congrArg s.setTimers (s.timers.set_set k c d)

@[simp] theorem State.putChannel_get (s : State) (k : ChannelId) : s.putChannel k (s.timers.get k) = s :=
  congrArg s.setTimers (s.timers.set_get k)

/-! ## Counting up to the compare value (R446, R449) -/

/-- The channel where COUNT has come to CMP: compare-hit is set, and a one-shot channel stops. -/
def TimerChannel.atCompare (c : TimerChannel) : TimerChannel :=
  { c with count := c.cmp, compareHit := true, ctrl := if c.autoRepeat then c.ctrl else c.ctrl &&& ~~~1#32 }

/-- Up to CMP there is no wrap. -/
theorem TimerChannel.nextCount_toNat {c : TimerChannel} (hup : c.countDown = false) (hle : c.count.toNat + 1 ≤ c.cmp.toNat) :
    c.nextCount.toNat = c.count.toNat + 1 := by
  have hcmp := c.cmp.isLt
  rw [TimerChannel.nextCount_of_up hup, BitVec.toNat_add]
  exact Nat.mod_eq_of_lt (by simp only [BitVec.toNat_ofNat]; omega)

theorem TimerChannel.wraps_of_le {c : TimerChannel} (hup : c.countDown = false) (hle : c.count.toNat + 1 ≤ c.cmp.toNat) :
    c.wraps = false := by
  have hnext : c.nextCount ≠ 0#32 := fun h => by
    have := c.nextCount_toNat hup hle
    rw [h, BitVec.toNat_zero] at this
    omega
  simp [TimerChannel.wraps, hup, hnext]

theorem TimerChannel.ticked_of_lt {c : TimerChannel} (hup : c.countDown = false) (hlt : c.count.toNat + 1 < c.cmp.toNat) :
    c.hits = false ∧ c.ticked = { c with count := c.count + 1#32 } := by
  have hhits : c.hits = false := decide_eq_false fun h => by
    have := c.nextCount_toNat hup hlt.le
    rw [h] at this
    omega
  have hstops : c.stops = false := by simp [TimerChannel.stops, hhits, hup]
  refine ⟨hhits, ?_⟩
  simp [TimerChannel.ticked, c.wraps_of_le hup hlt.le, hhits, hstops, TimerChannel.nextCount_of_up hup]

theorem TimerChannel.ticked_of_eq {c : TimerChannel} (hup : c.countDown = false) (heq : c.count.toNat + 1 = c.cmp.toNat) :
    c.hits = true ∧ c.ticked = c.atCompare := by
  have hnext : c.nextCount = c.cmp := BitVec.eq_of_toNat_eq ((c.nextCount_toNat hup heq.le).trans heq)
  have hhits : c.hits = true := decide_eq_true hnext
  have hstops : c.stops = !c.autoRepeat := by simp [TimerChannel.stops, hhits]
  refine ⟨hhits, ?_⟩
  cases hagain : c.autoRepeat <;>
    simp [TimerChannel.ticked, TimerChannel.atCompare, c.wraps_of_le hup heq.le, hhits, hstops, hnext, hagain]

theorem State.tickChannel_putChannel (s : State) (k : ChannelId) (c : TimerChannel) :
    (s.putChannel k c).tickChannel k = if c.hits && c.irqEnable then (s.putChannel k c.ticked).trigger 5#5 else s.putChannel k c.ticked := by
  have hticked : (s.putChannel k c).setTimers ((s.putChannel k c).timers.set k c.ticked) = s.putChannel k c.ticked :=
    s.putChannel_putChannel k c c.ticked
  rw [State.tickChannel_eq, State.get_putChannel, hticked]

/-- A running count-up channel n ticks short of CMP, with the cycles of exactly those ticks in its accumulator. -/
structure TimerChannel.CountsTo (c : TimerChannel) (n p : Nat) : Prop where
  enabled : c.enabled = true
  up : c.countDown = false
  irq : c.irqEnable = true
  count : c.count.toNat + n = c.cmp.toNat
  cycles : c.cyclesUntilTick = n * p

/-- The channel with one period taken from its accumulator. -/
def TimerChannel.pay (c : TimerChannel) (p : Nat) : TimerChannel := { c with cyclesUntilTick := c.cyclesUntilTick - p }

/-- One turn of the loop of R446. -/
theorem State.runChannel_succ {s : State} {k : ChannelId} {p : Nat} (henabled : (s.timers.get k).enabled = true)
    (hp : p ≤ (s.timers.get k).cyclesUntilTick) (fuel : Nat) :
    State.runChannel k p (fuel + 1) s =
      let u := (s.putChannel k ((s.timers.get k).pay p)).tickChannel k
      if (u.timers.get k).enabled then State.runChannel k p fuel u else u.putChannel k { u.timers.get k with cyclesUntilTick := 0 } := by
  have hturn : ((s.timers.get k).enabled && decide (p ≤ (s.timers.get k).cyclesUntilTick)) = true := by
    rw [henabled, decide_eq_true hp]
    rfl
  rw [State.runChannel]
  dsimp only
  rw [if_pos hturn]
  rfl

/-- With nothing left in the accumulator the loop ends, whether or not the channel still runs. -/
theorem State.leaveLoop_of_spent {u : State} {k : ChannelId} (h : (u.timers.get k).cyclesUntilTick = 0) (p : Nat) :
    (if (u.timers.get k).enabled then State.runChannel k p 0 u else u.putChannel k { u.timers.get k with cyclesUntilTick := 0 }) = u := by
  have hspent : { u.timers.get k with cyclesUntilTick := 0 } = u.timers.get k := by rw [← h]
  rw [hspent, State.putChannel_get]
  exact ite_self u

/-- The ticks short of CMP only count; the last one hits. -/
theorem State.runChannel_countsTo {k : ChannelId} {p n : Nat} {c : TimerChannel} (h : c.CountsTo (n + 1) p) (s : State) :
    State.runChannel k p (n + 1) (s.putChannel k c) = (s.putChannel k { c.atCompare with cyclesUntilTick := 0 }).trigger 5#5 := by
  induction n generalizing c with
  | zero =>
    have hspent : c.pay p = { c with cyclesUntilTick := 0 } := by simp [TimerChannel.pay, h.cycles]
    obtain ⟨hhits, hticked⟩ := TimerChannel.ticked_of_eq (c := c.pay p) h.up h.count
    have hirq : (c.pay p).irqEnable = true := h.irq
    have htick : (s.putChannel k (c.pay p)).tickChannel k = (s.putChannel k (c.pay p).atCompare).trigger 5#5 := by
      rw [State.tickChannel_putChannel, hhits, hirq, hticked]
      rfl
    rw [State.runChannel_succ (by simpa using h.enabled) (by simp [h.cycles])]
    simp only [State.get_putChannel, State.putChannel_putChannel, htick]
    rw [State.leaveLoop_of_spent (by simp [TimerChannel.atCompare, hspent]), hspent]
    rfl
  | succ n ih =>
    have hlt : c.count.toNat + 1 < c.cmp.toNat := by have := h.count; omega
    obtain ⟨hhits, hticked⟩ := TimerChannel.ticked_of_lt (c := c.pay p) h.up hlt
    have hnext : (c.pay p).ticked.CountsTo (n + 1) p := by
      have hcount : (c.count + 1#32).toNat + (n + 1) = c.cmp.toNat := by
        rw [← TimerChannel.nextCount_of_up h.up, TimerChannel.nextCount_toNat h.up hlt.le, Nat.add_right_comm]
        exact h.count
      rw [hticked]
      refine ⟨h.enabled, h.up, h.irq, hcount, ?cycles⟩
      case cycles => simp [TimerChannel.pay, h.cycles, Nat.succ_mul (n + 1)]
    have htick : (s.putChannel k (c.pay p)).tickChannel k = s.putChannel k (c.pay p).ticked := by
      rw [State.tickChannel_putChannel, hhits]
      rfl
    rw [State.runChannel_succ (by simpa using h.enabled) (by simpa [h.cycles] using Nat.le_mul_of_pos_left p (n + 1).succ_pos)]
    simp only [State.get_putChannel, State.putChannel_putChannel, htick, hnext.enabled, if_true]
    rw [ih hnext, hticked]
    rfl

theorem TimerChannel.period_eq (c : TimerChannel) : c.period = 2 ^ (c.ctrl.toNat / 32 % 8) := congrArg (2 ^ ·) (field_toNat c.ctrl 5 3)

/-- An enabled channel with an empty accumulator is fed n periods: the loop has fuel for n turns (R446). -/
theorem State.feedChannel_periods {s : State} {k : ChannelId} (henabled : (s.timers.get k).enabled = true)
    (hempty : (s.timers.get k).cyclesUntilTick = 0) (n : Nat) :
    s.feedChannel k (n * (s.timers.get k).period)
      = State.runChannel k (s.timers.get k).period n
          (s.putChannel k { s.timers.get k with cyclesUntilTick := n * (s.timers.get k).period }) := by
  have hfuel : n * (s.timers.get k).period / (s.timers.get k).period = n := Nat.mul_div_cancel n (Nat.two_pow_pos _)
  rw [State.feedChannel, if_pos henabled, hempty, Nat.zero_add]
  dsimp only
  rw [hfuel]
  rfl

/-- Settles O41: CMP periods are CMP ticks, of which only the last does more than count. -/
theorem timerHitsCompareOnce : Obligations.TimerHitsCompareOnce := by
  intro s k c henabled hup hirq hcount hempty hcmp
  obtain ⟨n, hn⟩ : ∃ n, c.cmp.toNat = n + 1 := Nat.exists_eq_succ_of_ne_zero fun h => hcmp (BitVec.eq_of_toNat_eq h)
  have hruns : ({ c with cyclesUntilTick := (n + 1) * c.period } : TimerChannel).CountsTo (n + 1) c.period :=
    ⟨henabled, hup, hirq, by simp [hcount, hn], rfl⟩
  have hspent : { c.atCompare with cyclesUntilTick := 0 } = c.atCompare := by rw [← hempty]; rfl
  calc s.feedChannel k (c.cmp.toNat * 2 ^ (c.ctrl.toNat / 32 % 8))
      = s.feedChannel k ((n + 1) * c.period) := by rw [hn, c.period_eq]
    _ = State.runChannel k c.period (n + 1) (s.putChannel k { c with cyclesUntilTick := (n + 1) * c.period }) :=
        State.feedChannel_periods henabled hempty (n + 1)
    _ = (s.putChannel k { c.atCompare with cyclesUntilTick := 0 }).trigger 5#5 := State.runChannel_countsTo hruns s
    _ = (s.putChannel k c.atCompare).trigger 5#5 := by rw [hspent]

/-! ## The register words of the timers and the VDU (R440 to R444, R471 to R474) -/

theorem TimerChannel.read_stat (c : TimerChannel) :
    c.read .stat = BitVec.ofNat 32 (2 * c.overflow.toNat + c.compareHit.toNat) := by
  rw [TimerChannel.read]
  cases c.overflow <;> cases c.compareHit <;> rfl

theorem append_eq_ofNat (hi lo : Half) : (hi ++ lo : Word) = BitVec.ofNat 32 (hi.toNat * 2 ^ 16 + lo.toNat) := by
  have hsum : (hi ++ lo : Word).toNat = hi.toNat * 2 ^ 16 + lo.toNat := by
    rw [BitVec.toNat_append, ← Nat.shiftLeft_add_eq_or_of_lt lo.isLt, Nat.shiftLeft_eq]
  rw [← hsum, BitVec.ofNat_toNat, BitVec.setWidth_eq]

theorem lowHalf_eq (v : Word) : v.extractLsb' 0 16 = v.setWidth 16 := (BitVec.setWidth_eq_extractLsb' (by decide)).symm

theorem highHalf_eq (v : Word) : v.extractLsb' 16 16 = BitVec.ofNat 16 (v.toNat / 2 ^ 16) := by
  apply BitVec.eq_of_toNat_eq
  rw [field_toNat, BitVec.toNat_ofNat]

theorem getLsbD_halfMask (i : Nat) : (0xFFFF#32).getLsbD i = decide (i < 16) := by
  have hmask : 0xFFFF#32 = (BitVec.allOnes 16).setWidth 32 := rfl
  rw [hmask, BitVec.getLsbD_setWidth, BitVec.getLsbD_allOnes]
  by_cases h : i < 16
  · simp [h]; omega
  · simp [h]

/-- A half merged at lane 0 replaces the low half of its word (R71). -/
theorem mergeLane_half_low {off : BitVec 24} (h : laneShift off .half = 0) (hi lo : Half) (v : Word) :
    mergeLane (hi ++ lo) off .half v = hi ++ v.setWidth 16 := by
  apply BitVec.eq_of_getLsbD_eq
  intro i hi
  simp only [mergeLane, sizeMask, h, BitVec.shiftLeft_zero, BitVec.getLsbD_or, BitVec.getLsbD_and, BitVec.getLsbD_not, getLsbD_halfMask,
    BitVec.getLsbD_append, BitVec.getLsbD_setWidth]
  by_cases hlow : i < 16 <;> simp [hlow, hi]

/-- A half merged at lane 16 replaces the high half of its word (R71). -/
theorem mergeLane_half_high {off : BitVec 24} (h : laneShift off .half = 16) (hi lo : Half) (v : Word) :
    mergeLane (hi ++ lo) off .half v = v.setWidth 16 ++ lo := by
  apply BitVec.eq_of_getLsbD_eq
  intro i hi
  have hhigh : i - 16 < 16 := by omega
  simp only [mergeLane, sizeMask, h, BitVec.getLsbD_or, BitVec.getLsbD_and, BitVec.getLsbD_not, BitVec.getLsbD_shiftLeft, getLsbD_halfMask,
    BitVec.getLsbD_append, BitVec.getLsbD_setWidth]
  by_cases hlow : i < 16 <;> simp [hlow, hi, hhigh]

/-- The writer of the VDU's first word stores CTRL alone (R471, R473). -/
theorem mmioWrite_vduCtrlStatus (hi lo : Half) (s : State) :
    mmioWrite .vduCtrlStatus (hi ++ lo) s = s.setVdu { s.vdu with ctrl := lo } := by
  rw [mmioWrite, BitVec.extractLsb'_append_eq_right]

theorem mmioWrite_vduFbAddr (hi lo : Half) (s : State) :
    mmioWrite .vduFbAddr (hi ++ lo) s = s.setVdu { s.vdu with fbAddrHigh := lo, fbAddrLow := hi } := by
  rw [mmioWrite, BitVec.extractLsb'_append_eq_right, BitVec.extractLsb'_append_eq_left]

/-- A half write of an I/O word whose reader has no side effect (R71). -/
theorem State.memWrite_half_eq {a : Word} {w : MmioWord} (hreg : Config.regionOf (segmentOf a) = some .mmio)
    (hw : mmioWord (wordIndex (offsetOf a)) = w) {s : State} (hpure : (mmioRead w s).2 = s) (v : Word) :
    s.memWrite a .half v = mmioWrite w (mergeLane (mmioRead w s).1 (offsetOf a) .half v) s := by
  subst hw
  rw [s.memWrite_of_mmio hreg, mmioStore_of_pure_read hpure]

/-- The address names a register of a timer channel (R440). -/
structure NamesTimer (a : Word) (k : ChannelId) (r : TimerReg) : Prop where
  region : Config.regionOf (segmentOf a) = some .mmio
  word : mmioWord (wordIndex (offsetOf a)) = .timer k r

theorem NamesTimer.memRead {a : Word} {k : ChannelId} {r : TimerReg} (h : NamesTimer a k r) (s : State) :
    s.memRead a .word = ((s.timers.get k).read r, s) :=
  s.memRead_word_eq h.region h.word

theorem NamesTimer.memWrite {a : Word} {k : ChannelId} {r : TimerReg} (h : NamesTimer a k r) (s : State) (v : Word) :
    s.memWrite a .word v = s.putChannel k ((s.timers.get k).write r v) :=
  s.memWrite_word_eq h.region h.word v

/-- Settles O43: a word access is its word's reader or writer, and a half write merges into the word, whose other half is then written back. -/
theorem timerAndVduRegisterWords : Obligations.TimerAndVduRegisterWords := by
  intro s v words
  have hwords {k : ChannelId} {base : Word} (hcount : NamesTimer base k .count) (hctrl : NamesTimer (base + 4#32) k .ctrl)
      (hcmp : NamesTimer (base + 8#32) k .cmp) (hstat : NamesTimer (base + 12#32) k .stat) :
      words base (s.timers.get k) (s.putChannel k) :=
    ⟨hcount.memRead s, hcount.memWrite s v, hctrl.memRead s, hctrl.memWrite s v, hcmp.memRead s, hcmp.memWrite s v,
      (hstat.memRead s).trans (congrArg (·, s) (s.timers.get k).read_stat), hstat.memWrite s v⟩
  refine ⟨hwords (k := .ch1) ⟨rfl, rfl⟩ ⟨rfl, rfl⟩ ⟨rfl, rfl⟩ ⟨rfl, rfl⟩, hwords (k := .ch2) ⟨rfl, rfl⟩ ⟨rfl, rfl⟩ ⟨rfl, rfl⟩ ⟨rfl, rfl⟩,
    ?readCtrl, ?writeCtrl, ?writeCtrlHalf, ?writeStatusHalf, ?readAddr, ?writeAddr, ?writeHigh, ?writeLow⟩
  case readCtrl =>
    exact (s.memRead_word_eq (w := .vduCtrlStatus) rfl rfl).trans (congrArg (·, s) (append_eq_ofNat _ _))
  case writeCtrl =>
    rw [s.memWrite_word_eq (w := .vduCtrlStatus) rfl rfl, mmioWrite, lowHalf_eq]
    rfl
  case writeCtrlHalf =>
    rw [s.memWrite_half_eq (w := .vduCtrlStatus) rfl rfl rfl, mmioRead, mergeLane_half_low rfl, mmioWrite_vduCtrlStatus]
    rfl
  case writeStatusHalf =>
    rw [s.memWrite_half_eq (w := .vduCtrlStatus) rfl rfl rfl, mmioRead, mergeLane_half_high rfl, mmioWrite_vduCtrlStatus]
    rfl
  case readAddr =>
    exact (s.memRead_word_eq (w := .vduFbAddr) rfl rfl).trans (congrArg (·, s) (append_eq_ofNat _ _))
  case writeAddr =>
    rw [s.memWrite_word_eq (w := .vduFbAddr) rfl rfl, mmioWrite, lowHalf_eq, highHalf_eq]
    rfl
  case writeHigh =>
    rw [s.memWrite_half_eq (w := .vduFbAddr) rfl rfl rfl, mmioRead, mergeLane_half_low rfl, mmioWrite_vduFbAddr]
    rfl
  case writeLow =>
    rw [s.memWrite_half_eq (w := .vduFbAddr) rfl rfl rfl, mmioRead, mergeLane_half_high rfl, mmioWrite_vduFbAddr]
    rfl

/-! ## The UART's queues (R457, R461 to R463) -/

theorem Uart.Ok.enqueueRx {u : Uart} (h : u.Ok) (b : Byte) : (u.enqueueRx b).Ok := by
  refine ⟨?status, rfl⟩
  have hready : (u.rxFifo ++ [b]).isEmpty = false := by simp
  show u.status ||| Uart.rxReadyMask = if (u.rxFifo ++ [b]).isEmpty then 0x90#32 else 0xD0#32
  rw [h.status, hready]
  split <;> rfl

/-- Bytes arrive in order, and STATUS and RXREG follow the queue (R459, R461). -/
theorem enqueueRx_foldl (bytes : List Byte) {s : State} (h : s.uart.Ok) :
    (bytes.foldl State.enqueueRx s).uart.rxFifo = s.uart.rxFifo ++ bytes ∧ (bytes.foldl State.enqueueRx s).uart.Ok := by
  induction bytes generalizing s with
  | nil => exact ⟨(List.append_nil _).symm, h⟩
  | cons b bytes ih =>
    obtain ⟨hqueue, hok⟩ := ih (s := s.enqueueRx b) (h.enqueueRx b)
    refine ⟨hqueue.trans ?_, hok⟩
    exact List.append_assoc s.uart.rxFifo [b] bytes

theorem Uart.Ok.status_eq {u : Uart} (h : u.Ok) : u.status = if u.rxFifo = [] then 0x90#32 else 0xD0#32 := by
  simpa only [List.isEmpty_iff] using h.status

theorem Uart.readData_of_nil {u : Uart} (h : u.rxFifo = []) : u.readData = (0#32, u) := by
  rw [Uart.readData, h]

/-- A read of DATA consumes the head, and keeps RX-ready while a byte remains (R462). -/
theorem Uart.Ok.readData_of_cons {u : Uart} (h : u.Ok) {b : Byte} {rest : List Byte} (hq : u.rxFifo = b :: rest) :
    u.readData = (b.setWidth 32,
      { u with rxFifo := rest, rxReg := Uart.head rest, status := if rest = [] then 0x90#32 else 0xD0#32 }) := by
  have hready : u.status = 0xD0#32 := by rw [h.status, hq]; rfl
  rw [Uart.readData, hq, hready]
  cases rest <;> rfl

theorem State.memRead_uartData (s : State) : s.memRead 0x080B0000#32 .word = (s.uart.readData.1, s.setUart s.uart.readData.2) :=
  s.memRead_word_eq (w := .uartData) rfl rfl

theorem State.setUart_transmit (s : State) (v : Word) :
    s.setUart (s.uart.transmit v) = { s with uart := { s.uart with txLog := s.uart.txLog ++ [v.setWidth 8] } } := by
  rw [Uart.transmit, ← BitVec.setWidth_eq_extractLsb' (by decide)]
  rfl

/-! ## The UART's other words (R456, R459, R464, R73) -/

/-- The bytes of an aligned I/O word lie in that word. -/
theorem byte_of_io_word {a : Word} (hseg : a.toNat / 2 ^ 24 = 0x08) (halign : a.toNat % 4 = 0) {k : Nat} (hk : k < 4) :
    Config.regionOf (segmentOf (a + BitVec.ofNat 32 k)) = some .mmio
      ∧ wordIndex (offsetOf (a + BitVec.ofNat 32 k)) = wordIndex (offsetOf a) := by
  have hsum : (a + BitVec.ofNat 32 k).toNat = a.toNat + k := by
    rw [BitVec.toNat_add, BitVec.toNat_ofNat]
    omega
  refine ⟨regionOf_io (by omega), BitVec.eq_of_toNat_eq ?_⟩
  rw [wordIndex_toNat, wordIndex_toNat, offsetOf_toNat, offsetOf_toNat, hsum]
  omega

/-- A store of any width to a word whose reader and writer both leave the state (R71). -/
theorem mmioStore_of_inert {off : BitVec 24} {s : State} (hread : (mmioRead (mmioWord (wordIndex off)) s).2 = s)
    (hwrite : ∀ w, mmioWrite (mmioWord (wordIndex off)) w s = s) (sz : Size) (v : Word) : mmioStore off sz v s = s := by
  rw [mmioStore_of_pure_read hread, hwrite]

theorem mmioLoad_unknown {off : BitVec 24} (h : mmioWord (wordIndex off) = .unknown) (sz : Size) (s : State) :
    mmioLoad off sz s = (0#32, s) := by
  rw [mmioLoad, h, mmioRead, BitVec.zero_ushiftRight, BitVec.zero_and]

theorem mmioStore_unknown {off : BitVec 24} (h : mmioWord (wordIndex off) = .unknown) (sz : Size) (v : Word) (s : State) :
    mmioStore off sz v s = s :=
  mmioStore_of_inert (by rw [h]; rfl) (by rw [h]; exact fun _ => rfl) sz v

theorem mmioStore_uartStatus {off : BitVec 24} (h : mmioWord (wordIndex off) = .uartStatus) (sz : Size) (v : Word) (s : State) :
    mmioStore off sz v s = s :=
  mmioStore_of_inert (by rw [h]; rfl) (by rw [h]; exact fun _ => rfl) sz v

theorem State.memWrite_uartStatus {k : Nat} (hk : k < 4) (s : State) (sz : Size) (v : Word) :
    s.memWrite (0x080B000C#32 + BitVec.ofNat 32 k) sz v = s := by
  obtain ⟨hregion, hword⟩ := byte_of_io_word (a := 0x080B000C#32) (by decide) (by decide) hk
  rw [s.memWrite_of_mmio hregion, mmioStore_uartStatus (by rw [hword]; rfl)]

/-- The words of the UART's range that hold no register (R73). -/
theorem uart_unknown_words {a : Word} (ha : a ∈ [0x080B0004#32, 0x080B0014#32, 0x080B0018#32, 0x080B001C#32]) :
    a.toNat / 2 ^ 24 = 0x08 ∧ a.toNat % 4 = 0 ∧ mmioWord (wordIndex (offsetOf a)) = .unknown := by
  simp only [List.mem_cons, List.not_mem_nil, or_false] at ha
  rcases ha with rfl | rfl | rfl | rfl <;> exact ⟨rfl, rfl, rfl⟩

theorem State.access_unknown {a : Word} (ha : a ∈ [0x080B0004#32, 0x080B0014#32, 0x080B0018#32, 0x080B001C#32]) {k : Nat} (hk : k < 4)
    (s : State) (sz : Size) (v : Word) :
    s.memRead (a + BitVec.ofNat 32 k) sz = (0#32, s) ∧ s.memWrite (a + BitVec.ofNat 32 k) sz v = s := by
  obtain ⟨hseg, halign, hunknown⟩ := uart_unknown_words ha
  obtain ⟨hregion, hword⟩ := byte_of_io_word hseg halign hk
  rw [← hword] at hunknown
  exact ⟨(s.memRead_of_mmio hregion sz).trans (mmioLoad_unknown hunknown sz s),
    (s.memWrite_of_mmio hregion sz v).trans (mmioStore_unknown hunknown sz v s)⟩

/-- Settles O44: the queues are appended to and read at the head, and every other word is storage, read-only, or inert. -/
theorem uartQueuesInOrder : Obligations.UartQueuesInOrder := by
  refine ⟨fun s bytes hok => enqueueRx_foldl bytes hok, fun s b rest hok hq => ?head, fun s hq => ?empty, fun s v =>
    ⟨?transmit, rfl, s.memRead_word_eq (w := .uartCtrl) rfl rfl, s.memWrite_word_eq (w := .uartCtrl) rfl rfl v,
      s.memRead_word_eq (w := .uartBaud) rfl rfl, s.memWrite_word_eq (w := .uartBaud) rfl rfl v, fun hok => ?status,
      fun k sz hk => s.memWrite_uartStatus hk sz v, fun a k sz ha hk => s.access_unknown ha hk sz v⟩⟩
  case head =>
    rw [s.memRead_uartData, hok.readData_of_cons hq]
    exact ⟨rfl, rfl⟩
  case empty =>
    rw [s.memRead_uartData, Uart.readData_of_nil hq]
    rfl
  case transmit => exact (s.memWrite_word_eq (w := .uartData) rfl rfl v).trans (s.setUart_transmit v)
  case status => exact (s.memRead_word_eq (w := .uartStatus) rfl rfl).trans (congrArg (·, s) hok.status_eq)

/-! ## The outcomes of `render` (R480) -/

/-- The end of a successful `render`: the picture, vblank, and line 4 (R480 steps 4 and 5). -/
def State.shows (s : State) (px : Memory) : State := (s.setVdu { s.vdu with pixels := px }.setVblank).trigger 4#5

theorem State.shows_pixels (s : State) (px : Memory) : (s.shows px).vdu.pixels = px := by rw [State.shows, State.trigger_vdu]; rfl

theorem State.shows_vblank (s : State) (px : Memory) : (s.shows px).vdu.status = s.vdu.status ||| 1#16 := by
  rw [State.shows, State.trigger_vdu]
  rfl

theorem State.shows_line (s : State) (px : Memory) : (s.shows px).intc.status.getLsbD 4 = true := by
  rw [State.shows, State.trigger_intc]
  exact State.latch_status_bit _ 4#5

theorem State.shows_mem (s : State) (px : Memory) : (s.shows px).mem = s.mem := by rw [State.shows, State.trigger_mem, State.setVdu_mem]

theorem bytesPerPixel_eq_sourceBytes (f : Config.VduFormat) : bytesPerPixel f = sourceBytes f := by cases f <;> rfl

section Outcomes

variable {s : State} (w h : Nat) (f : Config.VduFormat)

theorem State.renderWith_of_unmapped (hreg : Config.regionOf (segmentOf s.vdu.fbAddr) = none) :
    s.renderWith w h f = s.setVdu { s.vdu with segmentErrors := s.vdu.segmentErrors + 1 } := by
  rw [segmentOf] at hreg
  simp only [State.renderWith, hreg]

theorem State.renderWith_of_mmio (hreg : Config.regionOf (segmentOf s.vdu.fbAddr) = some .mmio) :
    s.renderWith w h f = s.setVdu { s.vdu with boundsErrors := s.vdu.boundsErrors + 1 } := by
  rw [segmentOf] at hreg
  simp only [State.renderWith, hreg]

theorem State.renderWith_of_backing {b : Config.Backing} (hreg : Config.regionOf (segmentOf s.vdu.fbAddr) = some (.backing b)) :
    s.renderWith w h f =
      if s.vdu.fbAddr.toNat % 2 ^ 24 + w * h * sourceBytes f ≤ b.size then
        s.shows (scanOut f s.mem (b.base + s.vdu.fbAddr.toNat % 2 ^ 24) (w * h) s.vdu.pixels)
      else s.setVdu { s.vdu with boundsErrors := s.vdu.boundsErrors + 1 } := by
  have hoff : (s.vdu.fbAddr.extractLsb' 0 24).toNat = s.vdu.fbAddr.toNat % 2 ^ 24 := offsetOf_toNat _
  rw [segmentOf] at hreg
  simp only [State.renderWith, hreg, hoff, bytesPerPixel_eq_sourceBytes]
  rfl

end Outcomes

/-! ## The bytes of the output (R475, R480) -/

/-- Component k of a pixel: R, G, B, A. -/
def Pixel.channel (p : Pixel) : Nat → Byte
  | 0 => p.r
  | 1 => p.g
  | 2 => p.b
  | _ => p.a

theorem read_setPixel_inside {px : Memory} (hpx : px.wf) (i : Nat) (p : Pixel) {k : Nat} (hk : k < 4) :
    (setPixel px i p).read (4 * i + k) = p.channel k := by
  have hr := Memory.wf_write px (4 * i) p.r hpx
  have hg := Memory.wf_write _ (4 * i + 1) p.g hr
  have hb := Memory.wf_write _ (4 * i + 2) p.b hg
  rw [setPixel]
  interval_cases k
  · rw [Memory.read_write_ne _ _ _ _ (by omega), Memory.read_write_ne _ _ _ _ (by omega), Memory.read_write_ne _ _ _ _ (by omega)]
    exact Memory.read_write_same _ _ _ hpx
  · rw [Memory.read_write_ne _ _ _ _ (by omega), Memory.read_write_ne _ _ _ _ (by omega)]
    exact Memory.read_write_same _ _ _ hr
  · rw [Memory.read_write_ne _ _ _ _ (by omega)]
    exact Memory.read_write_same _ _ _ hg
  · exact Memory.read_write_same _ _ _ hb

theorem read_setPixel_outside (px : Memory) (i : Nat) (p : Pixel) {a : Nat} (h : a < 4 * i ∨ 4 * i + 4 ≤ a) :
    (setPixel px i p).read a = px.read a := by
  rw [setPixel, Memory.read_write_ne _ _ _ _ (by omega), Memory.read_write_ne _ _ _ _ (by omega), Memory.read_write_ne _ _ _ _ (by omega),
    Memory.read_write_ne _ _ _ _ (by omega)]

/-- Each pixel scanned out is the conversion of its source pixel. -/
theorem read_scanOut_inside (f : Config.VduFormat) (m : Memory) (base : Nat) {n : Nat} {px : Memory} (hpx : px.wf) {i k : Nat}
    (hi : i < n) (hk : k < 4) :
    (scanOut f m base n px).read (4 * i + k)
      = (convertPixel f (m.readLE (base + i * bytesPerPixel f) (bytesPerPixel f))).channel k := by
  induction n with
  | zero => exact absurd hi i.not_lt_zero
  | succ n ih =>
    rw [scanOut]
    rcases Nat.lt_succ_iff_lt_or_eq.1 hi with hlt | rfl
    · rw [read_setPixel_outside _ _ _ (by omega), ih hlt]
    · exact read_setPixel_inside (wf_scanOut f m base i px hpx) i _ hk

theorem read_scanOut_outside (f : Config.VduFormat) (m : Memory) (base n : Nat) (px : Memory) {a : Nat} (h : 4 * n ≤ a) :
    (scanOut f m base n px).read a = px.read a := by
  induction n with
  | zero => rfl
  | succ n ih => rw [scanOut, read_setPixel_outside _ _ _ (by omega), ih (by omega)]

/-! ## The conversion of a pixel in integers (R481, D35) -/

theorem scale5_field_toNat (p : Word) (lo : Nat) : (scale5 (p.extractLsb' lo 5)).toNat = (p.toNat / 2 ^ lo % 32 * 255 + 15) / 31 := by
  have hfield : p.toNat / 2 ^ lo % 32 < 32 := Nat.mod_lt _ (by decide)
  rw [scale5, field_toNat, BitVec.toNat_ofNat]
  exact Nat.mod_eq_of_lt (by omega)

theorem scale6_field_toNat (p : Word) (lo : Nat) : (scale6 (p.extractLsb' lo 6)).toNat = (p.toNat / 2 ^ lo % 64 * 255 + 31) / 63 := by
  have hfield : p.toNat / 2 ^ lo % 64 < 64 := Nat.mod_lt _ (by decide)
  rw [scale6, field_toNat, BitVec.toNat_ofNat]
  exact Nat.mod_eq_of_lt (by omega)

theorem Memory.readLE_two_toNat (m : Memory) (a : Nat) : (m.readLE a 2).toNat = (m.read a).toNat + 256 * (m.read (a + 1)).toNat := by
  have hnone : m.littleEndian a 0 = 0 := rfl
  rw [m.readLE_toNat a 2 (by decide), Memory.littleEndian_succ, Memory.littleEndian_succ, hnone]
  simp only [Nat.add_zero]
  omega

/-- Byte j of a 32-bit source pixel. -/
theorem Memory.extractLsb'_readLE_four (m : Memory) (a : Nat) {j : Nat} (hj : j < 4) :
    (m.readLE a 4).extractLsb' (8 * j) 8 = m.read (a + j) := by
  have hnone : m.littleEndian a 0 = 0 := rfl
  have h0 := (m.read (a + 0)).isLt
  have h1 := (m.read (a + 1)).isLt
  have h2 := (m.read (a + 2)).isLt
  have h3 := (m.read (a + 3)).isLt
  apply BitVec.eq_of_toNat_eq
  rw [field_toNat, m.readLE_toNat a 4 (by decide)]
  simp only [Memory.littleEndian_succ, hnone]
  interval_cases j <;> omega

theorem channel_rgba8888 (p : Word) {k : Nat} (hk : k < 4) : (convertPixel .rgba8888 p).channel k = p.extractLsb' (8 * k) 8 := by
  interval_cases k <;> rfl

theorem channel_argb8888 (p : Word) {k : Nat} (hk : k < 4) :
    (convertPixel .argb8888 p).channel k = p.extractLsb' (8 * ((k + 1) % 4)) 8 := by
  interval_cases k <;> rfl

theorem convertPixel_channel (f : Config.VduFormat) (m : Memory) (a : Nat) {k : Nat} (hk : k < 4) :
    ((convertPixel f (m.readLE a (sourceBytes f))).channel k).toNat = component f (fun j => (m.read (a + j)).toNat) k := by
  cases f with
  | rgba8888 => rw [channel_rgba8888 _ hk, sourceBytes, m.extractLsb'_readLE_four a hk]; rfl
  | argb8888 => rw [channel_argb8888 _ hk, sourceBytes, m.extractLsb'_readLE_four a (Nat.mod_lt _ (by decide))]; rfl
  | rgb565 =>
    have hp := m.readLE_two_toNat a
    interval_cases k
    · exact (scale5_field_toNat _ 11).trans (by rw [sourceBytes, hp]; rfl)
    · exact (scale6_field_toNat _ 5).trans (by rw [sourceBytes, hp]; rfl)
    · exact (scale5_field_toNat _ 0).trans (by rw [sourceBytes, hp, pow_zero, Nat.div_one]; rfl)
    · rfl
  | rgb555 =>
    have hp := m.readLE_two_toNat a
    interval_cases k
    · exact (scale5_field_toNat _ 10).trans (by rw [sourceBytes, hp]; rfl)
    · exact (scale5_field_toNat _ 5).trans (by rw [sourceBytes, hp]; rfl)
    · exact (scale5_field_toNat _ 0).trans (by rw [sourceBytes, hp, pow_zero, Nat.div_one]; rfl)
    · rfl

/-- Settles O45: the outcomes are those of `renderWith`, and each byte of the picture is the one its own source pixel converts to. -/
theorem renderConvertsEveryPixel : Obligations.RenderConvertsEveryPixel := by
  intro s w h f hpx off t
  cases hreg : Config.regionOf (segmentOf s.vdu.fbAddr) with
  | none => exact State.renderWith_of_unmapped w h f hreg
  | some region =>
    cases region with
    | mmio => exact State.renderWith_of_mmio w h f hreg
    | backing b =>
      have hbacking := State.renderWith_of_backing w h f hreg
      dsimp only
      split
      · next hover => exact hbacking.trans (if_neg (not_le.2 hover))
      · next hfits =>
        have ht : t = s.shows (scanOut f s.mem (b.base + off) (w * h) s.vdu.pixels) := hbacking.trans (if_pos (not_lt.1 hfits))
        rw [ht]
        refine ⟨fun i k hi hk => ?inside, fun a ha => ?outside, s.shows_vblank _, s.shows_line _, s.shows_mem _⟩
        case inside =>
          rw [State.shows_pixels, read_scanOut_inside f s.mem _ hpx hi hk, bytesPerPixel_eq_sourceBytes, convertPixel_channel f s.mem _ hk]
        case outside => rw [State.shows_pixels, read_scanOut_outside f s.mem _ _ _ ha]

end Sys2Proof.Machine
end

section
/-!
PROOFS. The engine (spec/62_engine.md): the host's start and pause (R511, R512), the slice (R506), the loaded image (R510, R545, R546), and what a whole
frame does to the engine's and the CPU's counters (R505, R507, R508).
-/

namespace Sys2Proof.Machine

open Claims

/-! ## start and pause (R511, R512) -/

/-- Settles O58: both operations are one conditional on the mode. -/
theorem startAndPauseMoveOnlyTheirMode : Obligations.StartAndPauseMoveOnlyTheirMode := fun _ =>
  ⟨fun h => if_pos h, fun h => if_neg h, fun h => if_pos h, fun h => if_neg h⟩

/-! ## The slice (R506, D38) -/

theorem State.chargeSlice_of_more {s : State} (h : 4 < s.sliceRemaining) :
    s.chargeSlice = { s with sliceRemaining := s.sliceRemaining - 4 } :=
  if_neg (not_le.2 (sub_pos.2 h))

theorem State.chargeSlice_of_spent {s : State} (h : s.sliceRemaining ≤ 4) :
    s.chargeSlice = ({ s with sliceRemaining := 10000 } : State).tick 10000 :=
  if_pos (sub_nonpos.2 h)

/-- While more than one charge is left of a full slice, a charge only lowers it. -/
theorem State.chargeSlice_iterate_of_full {s : State} (hfull : s.sliceRemaining = 10000) {k : Nat} (hk : k < 2500) :
    State.chargeSlice^[k] s = { s with sliceRemaining := 10000 - 4 * k } := by
  induction k with
  | zero => rw [Function.iterate_zero_apply, Nat.cast_zero, mul_zero, sub_zero, ← hfull]
  | succ k ih =>
    have hcharge : (10000 - 4 * k - 4 : Int) = 10000 - 4 * (k + 1 : Nat) := by omega
    rw [Function.iterate_succ_apply', ih (by omega), State.chargeSlice_of_more (by dsimp only; omega)]
    simp only [hcharge]

/-- Settles O57: the charge of the last 4 cycles refills the slice and ticks. -/
theorem sliceTicksOnceIn2500 : Obligations.SliceTicksOnceIn2500 := by
  intro s hfull
  refine ⟨fun k hk => State.chargeSlice_iterate_of_full hfull hk, ?_⟩
  have hlast := State.chargeSlice_iterate_of_full hfull (k := 2499) (by decide)
  have hsame : ({ s with sliceRemaining := 10000 } : State) = s := by rw [← hfull]
  calc State.chargeSlice^[2499 + 1] s
      = State.chargeSlice { s with sliceRemaining := 10000 - 4 * (2499 : Nat) } := by rw [Function.iterate_succ_apply', hlast]
    _ = ({ s with sliceRemaining := 10000 } : State).tick 10000 := State.chargeSlice_of_spent (by dsimp only; omega)
    _ = s.tick 10000 := by rw [hsame]

/-! ## The loaded image (R69, R510, R545, R546) -/

/-- A bulk load leaves the bytes before and beyond what it stores. -/
theorem read_bulkLoad_outside (m : Memory) (a room : Nat) (l : List Byte) {x : Nat} (hx : x < a ∨ a + min l.length room ≤ x) :
    (bulkLoad m a room l).read x = m.read x := by
  induction room generalizing m a l with
  | zero => rw [bulkLoad]
  | succ n ih =>
    cases l with
    | nil => rw [bulkLoad]
    | cons b l =>
      rw [List.length_cons] at hx
      rw [bulkLoad, ih _ _ _ (by omega), Memory.read_write_ne _ _ _ _ (by omega)]

/-- R69: byte k of the sequence stands k above the start, as far as there is room. -/
theorem read_bulkLoad_inside {m : Memory} (hm : m.wf) (a : Nat) {room k : Nat} {l : List Byte} (hk : k < l.length) (hroom : k < room) :
    (bulkLoad m a room l).read (a + k) = l.getD k 0#8 := by
  induction room generalizing m a l k with
  | zero => omega
  | succ n ih =>
    cases l with
    | nil => simp at hk
    | cons b l =>
      rw [bulkLoad]
      cases k with
      | zero => rw [read_bulkLoad_outside _ _ _ _ (.inl (by omega)), Nat.add_zero, Memory.read_write_same _ _ _ hm, List.getD_cons_zero]
      | succ k =>
        have hnext := ih (Memory.wf_write m a b hm) (a + 1) (k := k) (l := l) (by simpa using hk) (by omega)
        rwa [Nat.add_right_comm, Nat.add_assoc] at hnext

/-- Under ROM_VALID_OPS no image is word-swapped (D41). -/
theorem candidate_romValidOps (bytes : List Byte) (m : Memory) :
    candidate Config.romValidOps bytes m = bulkLoad m 0x9E000000 0x800000 bytes := by
  unfold candidate
  exact if_neg Bool.false_ne_true

/-- Under ROM_VALID_OPS every image passes the verification (D41). -/
theorem State.loadRom_eq (s : State) (bytes : List Byte) :
    s.loadRom bytes =
      { s with
        mem := bulkLoad s.mem 0x9E000000 0x800000 bytes
        pc := if hasMagic (bulkLoad s.mem 0x9E000000 0x800000 bytes) then 0x9E000100#32 else 0x9E000000#32
        mode := .paused } := by
  rw [State.loadRom, State.loadRomWith, candidate_romValidOps]
  exact if_pos rfl

theorem hasMagic_iff (m : Memory) :
    hasMagic m = true ↔ [0x4E, 0x4F, 0x50, 0x51].map (fun k => m.read (0x9E000000 + k)) = [0x61#8, 0x4D#8, 0x38#8, 0x32#8] := by
  simp only [hasMagic, Config.flash, Bool.and_eq_true, beq_iff_eq, List.map_cons, List.map_nil, List.cons.injEq, and_assoc, and_true]

/-- Settles O59: the image is a bulk load into flash, and the magic is looked for in what it left. -/
theorem loadRomPlacesTheImage : Obligations.LoadRomPlacesTheImage := by
  intro s bytes hm t
  have ht : t = _ := s.loadRom_eq bytes
  have hmem : t.mem = bulkLoad s.mem 0x9E000000 0x800000 bytes := by rw [ht]
  refine ⟨fun k hk hroom => ?placed, fun a ha => ?kept, ?entry, ?rest⟩
  case placed => rw [hmem, read_bulkLoad_inside hm _ hk hroom]
  case kept => rw [hmem, read_bulkLoad_outside _ _ _ _ ha]
  case entry =>
    have hpc : t.pc = if hasMagic t.mem then 0x9E000100#32 else 0x9E000000#32 := by rw [ht]
    rw [hpc]
    exact if_congr (hasMagic_iff t.mem) rfl rfl
  case rest => rw [ht]

/-! ## What the engine and the CPU count -/

/-- What neither an instruction's meaning nor a device changes: the CPU's counters and `halted`, and the engine's state but for the slice. -/
structure Bookkeeping where
  halted : Bool
  mode : EngineMode
  frameCounter : Nat
  cyclesRemaining : Option Int
  breakpoints : List Word
  cycles : Nat
  instret : Nat

def State.bookkeeping (s : State) : Bookkeeping :=
  { halted := s.halted, mode := s.mode, frameCounter := s.frameCounter, cyclesRemaining := s.cyclesRemaining, breakpoints := s.breakpoints,
    cycles := s.cycles, instret := s.instret }

/-- One CPU step counted (R123) inside a frame with c cycles left (R505 step 2c). -/
def Bookkeeping.charged (b : Bookkeeping) (c : Int) : Bookkeeping :=
  { b with cyclesRemaining := some (c - 4), cycles := b.cycles + 4, instret := b.instret + 1 }

theorem State.bookkeeping_fetch (s : State) : s.fetch.2.bookkeeping = s.bookkeeping := by
  rw [State.fetch]
  rcases s.memRead_state s.pc .word with h | h | h <;> rw [h] <;> rfl

theorem bookkeeping_exec {i : Instr} {s t : State} (h : exec i s = .next t) : t.bookkeeping = s.bookkeeping := by
  obtain ⟨ht, -, -⟩ := instructionsLeaveTheRest i s t h
  rw [ht]
  rfl

theorem State.bookkeeping_trigger (s : State) (n : BitVec 5) : (s.trigger n).bookkeeping = s.bookkeeping := by
  rw [s.trigger_state n]
  rfl

theorem State.bookkeeping_enter (s : State) (c : Cause) : (s.enter c).bookkeeping = s.bookkeeping := rfl

theorem State.bookkeeping_chargeSlice (s : State) : s.chargeSlice.bookkeeping = s.bookkeeping := by
  rcases le_or_gt s.sliceRemaining 4 with h | h
  · rw [State.chargeSlice_of_spent h, State.tick_alike _ 10000]
    rfl
  · rw [State.chargeSlice_of_more h]
    rfl

/-- A CPU step inside a frame, charged to it, is counted and otherwise leaves the books alone. -/
theorem bookkeeping_cpuStep {s t : State} (hh : s.halted = false) (h : s.cpuStep = .next t) (c : Int) :
    (t.chargeFrame c).bookkeeping = s.bookkeeping.charged c := by
  have counted {u : State} (hu : u.bookkeeping = s.bookkeeping) : (u.countStep.chargeFrame c).bookkeeping = s.bookkeeping.charged c :=
    congrArg (Bookkeeping.charged · c) hu
  rcases cpuStep_cases h with ⟨hhalted, -⟩ | ⟨-, i, u, -, hu, rfl⟩ | ⟨-, e, -, rfl⟩
  · exact absurd hhalted (by simp [hh])
  · exact counted ((bookkeeping_exec hu).trans s.bookkeeping_fetch)
  · exact counted ((State.bookkeeping_enter _ _).trans s.bookkeeping_fetch)

/-! ## The end of a frame (R505 steps 3 and 4) -/

/-- All `render` can do: write the VDU, and then perhaps raise line 4 (R480). -/
theorem State.render_cases (s : State) : ∃ v, s.render = s.setVdu v ∨ s.render = (s.setVdu v).trigger 4#5 := by
  unfold State.render State.renderWith
  dsimp only
  split
  · exact ⟨_, .inl rfl⟩
  · exact ⟨_, .inl rfl⟩
  · split
    · exact ⟨_, .inr rfl⟩
    · exact ⟨_, .inl rfl⟩

theorem State.bookkeeping_render (s : State) : s.render.bookkeeping = s.bookkeeping := by
  obtain ⟨v, h | h⟩ := s.render_cases <;> rw [h]
  · rfl
  · exact State.bookkeeping_trigger _ _

theorem State.trigger_line (s : State) (n : BitVec 5) : (s.trigger n).intc.status.getLsbD n.toNat = true := by
  rw [State.trigger_intc]
  exact s.latch_status_bit n

theorem State.render_line {s : State} (h : s.intc.status.getLsbD 4 = true) : s.render.intc.status.getLsbD 4 = true := by
  obtain ⟨v, hr | hr⟩ := s.render_cases <;> rw [hr]
  · exact h
  · exact State.trigger_line _ 4#5

theorem State.bookkeeping_endFrame (s : State) :
    s.endFrame.bookkeeping = { s.bookkeeping with frameCounter := s.frameCounter + 1, cyclesRemaining := none } := by
  unfold State.endFrame
  dsimp only
  split
  · rw [State.bookkeeping_render, State.bookkeeping_trigger]
    rfl
  · rw [State.bookkeeping_trigger]
    rfl

theorem State.endFrame_line (s : State) : s.endFrame.intc.status.getLsbD 4 = true := by
  have hline (u : State) : (u.trigger Config.irqVblank).intc.status.getLsbD 4 = true := u.trigger_line 4#5
  unfold State.endFrame
  dsimp only
  split
  · exact State.render_line (hline _)
  · exact hline _

/-! ## The iterations of a frame (R505, R507) -/

theorem step_eq_advanced (s : State) : step s = .next (advanced s) := by
  obtain ⟨t, h⟩ := everyStepCompletes s
  rw [advanced, h]

theorem advanced_eq {s t : State} (h : step s = .next t) : advanced s = t := by rw [advanced, h]

theorem bookkeeping_iteration {s : State} {c : Int} (hm : s.mode = .running) (hh : s.halted = false) (hc : s.cyclesRemaining = some c)
    (hpos : 0 < c) (hb : s.pc ∉ s.breakpoints) : (advanced s).bookkeeping = s.bookkeeping.charged c := by
  obtain ⟨u, hu⟩ := cpuStep_completes s
  have hstep := (step_of_cpuStep hu).2 c ⟨hm, hc, hpos⟩ hb
  rw [andThen_next] at hstep
  rw [advanced_eq hstep, State.bookkeeping_chargeSlice, bookkeeping_cpuStep hh hu]

/-- The books k iterations into a frame, from those before it (R507). -/
def Bookkeeping.inFrame (b : Bookkeeping) (k : Nat) : Bookkeeping :=
  { b with cyclesRemaining := some (564480 - 4 * k), cycles := b.cycles + 4 * k, instret := b.instret + k }

theorem Bookkeeping.charged_inFrame (b : Bookkeeping) (k : Nat) : (b.inFrame k).charged (564480 - 4 * k) = b.inFrame (k + 1) := by
  have hleft : (564480 - 4 * k - 4 : Int) = 564480 - 4 * (k + 1 : Nat) := by omega
  simp only [Bookkeeping.charged, Bookkeeping.inFrame, hleft, Nat.mul_add_one, Nat.add_assoc]

/-! ## `frame` as its units (R505) -/

theorem frameUnits_succ (fuel : Nat) (s : State) :
    State.frameUnits (fuel + 1) s =
      if (advanced s).cyclesRemaining.isSome then State.frameUnits fuel (advanced s) else .next (advanced s) := by
  have hunit : s.engineUnit = .next (advanced s) := step_eq_advanced s
  rw [State.frameUnits, hunit, andThen_next]

/-- Units that stay inside the frame are steps, one after the other. -/
theorem frameUnits_add {s : State} {n : Nat} (h : ∀ k, k < n → (advanced^[k + 1] s).cyclesRemaining.isSome) (fuel : Nat) :
    State.frameUnits (fuel + n) s = State.frameUnits fuel (advanced^[n] s) := by
  induction n generalizing fuel with
  | zero => rfl
  | succ n ih =>
    have hlast := h n (Nat.lt_succ_self n)
    rw [Function.iterate_succ_apply'] at hlast ⊢
    rw [← Nat.add_assoc, Nat.add_right_comm, ih (fun k hk => h k (Nat.lt_succ_of_lt hk)), frameUnits_succ, if_pos hlast]

section Frame

variable {s : State} {n : Nat} (hn : 4 * n = 564480) (hm : s.mode = .running) (hc : s.cyclesRemaining = none) (hh : s.halted = false)
  (hb : ∀ k, 1 ≤ k → k ≤ n → (advanced^[k] s).pc ∉ s.breakpoints)

include hn hm hc hh hb

/-- Without a breakpoint hit, the unit that begins the frame and k further ones are k iterations. -/
theorem bookkeeping_inFrame {k : Nat} (hk : k ≤ n) : (advanced^[k + 1] s).bookkeeping = s.bookkeeping.inFrame k := by
  induction k with
  | zero =>
    rw [Function.iterate_one, advanced_eq (step_of_betweenFrames hm hc)]
    rfl
  | succ k ih =>
    have hbooks := ih (by omega)
    have hmode : (advanced^[k + 1] s).mode = .running := (congrArg Bookkeeping.mode hbooks).trans hm
    have hrunning : (advanced^[k + 1] s).halted = false := (congrArg Bookkeeping.halted hbooks).trans hh
    have hleft : (advanced^[k + 1] s).cyclesRemaining = some (564480 - 4 * (k : Int)) := congrArg Bookkeeping.cyclesRemaining hbooks
    have hset : (advanced^[k + 1] s).breakpoints = s.breakpoints := congrArg Bookkeeping.breakpoints hbooks
    have hmiss : (advanced^[k + 1] s).pc ∉ (advanced^[k + 1] s).breakpoints := hset ▸ hb (k + 1) (by omega) hk
    rw [Function.iterate_succ_apply', bookkeeping_iteration hmode hrunning hleft (by omega) hmiss, hbooks, Bookkeeping.charged_inFrame]

/-- After the last iteration the frame ends (R505 steps 3 and 4). -/
theorem advanced_iterations : advanced (advanced^[n + 1] s) = (advanced^[n + 1] s).endFrame := by
  have hbooks := bookkeeping_inFrame hn hm hc hh hb le_rfl
  exact advanced_eq (step_of_frameDone ((congrArg Bookkeeping.mode hbooks).trans hm) (congrArg Bookkeeping.cyclesRemaining hbooks) (by omega))

/-- R507: the frame is its start, n iterations and its end. -/
theorem frame_eq_endFrame : s.frame = .next (advanced^[n + 1] s).endFrame := by
  have hunits : Config.cyclesPerFrame / Config.cyclesPerInstruction + 2 = 0 + 1 + (n + 1) := by
    rw [Config.cyclesPerFrame, Config.cyclesPerInstruction]
    omega
  have hopen (k : Nat) (hk : k < n + 1) : (advanced^[k + 1] s).cyclesRemaining.isSome := by
    have hleft := congrArg Bookkeeping.cyclesRemaining (bookkeeping_inFrame hn hm hc hh hb (Nat.le_of_lt_succ hk))
    exact Option.isSome_of_eq_some hleft
  have hclosed : (advanced^[n + 1] s).endFrame.cyclesRemaining = none :=
    congrArg Bookkeeping.cyclesRemaining (State.bookkeeping_endFrame _)
  rw [State.frame, if_pos hm, hunits, frameUnits_add hopen, frameUnits_succ, advanced_iterations hn hm hc hh hb, hclosed]
  rfl

/-- A frame without a breakpoint hit: its books, and line 4 pending (D46). -/
theorem frame_spec :
    ∃ t, s.frame = .next t ∧ t.intc.status.getLsbD 4 = true
      ∧ t.bookkeeping =
        { s.bookkeeping with
          frameCounter := s.frameCounter + 1, cyclesRemaining := none, cycles := s.cycles + 564480, instret := s.instret + n } := by
  have hbooks := bookkeeping_inFrame hn hm hc hh hb le_rfl
  have hcount : (advanced^[n + 1] s).frameCounter = s.frameCounter := congrArg Bookkeeping.frameCounter hbooks
  refine ⟨_, frame_eq_endFrame hn hm hc hh hb, State.endFrame_line _, ?_⟩
  rw [State.bookkeeping_endFrame, hbooks, hcount, Bookkeeping.inFrame, hn]
  rfl

end Frame

/-- Settles O56: 141,120 iterations of 4 cycles are a frame, and inside one the host waits. -/
theorem frameIsExactlyItsSteps : Obligations.FrameIsExactlyItsSteps := by
  refine ⟨fun s hm hc hh hb => ?frame, fun op s hin => if_pos (Option.isSome_iff_ne_none.2 hin)⟩
  obtain ⟨t, hframe, hline, hbooks⟩ := frame_spec (by decide) hm hc hh hb
  exact ⟨t, hframe, congrArg Bookkeeping.instret hbooks, congrArg Bookkeeping.cycles hbooks, congrArg Bookkeeping.frameCounter hbooks,
    (congrArg Bookkeeping.mode hbooks).trans hm, congrArg Bookkeeping.cyclesRemaining hbooks, hline,
    congrArg Bookkeeping.breakpoints hbooks⟩

end Sys2Proof.Machine
end

section
/-!
PROOFS. The rotates and the immediate shifts (spec/40_alu.md section 6): a rotate of 32 bits, and a rotate through C as a rotate of the 33 bits
{C, a}, both read bit by bit.
-/

namespace Sys2Proof.Machine

open Claims

/-! ## Rotates of 32 bits and immediate shifts (R162, R164, R166 to R169, R171) -/

/-- Settles O7: a rotate is read bit by bit, and an immediate shift is the register shift by the number in the instruction. -/
theorem rotatesAndImmediateShifts : Obligations.RotatesAndImmediateShifts := by
  intro s rd ra rb imm5 cu n right left gives
  have hcount : shiftCount (s.x rb) = n := shiftCount_eq_mod _
  have hn : n < 32 := Nat.mod_lt _ (by decide)
  have hright {k : Nat} (hk : k < 32) : rotRight (s.x ra) k = right k := eq_ofBits fun _ hi => getLsbD_rotRight _ hk hi
  have hleft {k : Nat} (hk : k < 32) : rotLeft (s.x ra) k = left k := eq_ofBits fun _ hi => getLsbD_rotLeft _ hk hi
  refine ⟨yieldsReg_of_putLogic rfl ?ror, yieldsReg_of_putLogic rfl ?rol, yieldsReg_of_putLogic rfl (hright imm5.isLt),
    yieldsReg_of_putLogic rfl (hleft imm5.isLt), yieldsReg_of_putLogic rfl (shiftLeft_eq_ofNat _ _),
    yieldsReg_of_putLogic rfl (shiftRight_eq_ofNat _ _), yieldsReg_of_putLogic rfl (shiftRightArith_eq_ofInt _ _)⟩
  case ror => rw [hcount, hright hn]
  case rol => rw [hcount, hleft hn]

/-! ## Rotates through C (R163, R165, R170, R172) -/

theorem Flags.setNZC_eq_nzc (f : Flags) (r : Word) (c : Bool) : f.setNZC r c = nzc f true r c := by
  rw [Flags.setNZC, Flags.setNZ_eq_nz]
  rfl

theorem yieldsReg_of_putCarry {i : Instr} {s : State} {rd : Reg} {p : Word × Bool} {r : Word} {c cu : Bool}
    (h : exec i s = done32 (s.putCarry rd p cu)) (hp : p = (r, c)) : YieldsReg i s rd r (nzc s.flags cu r c) (s.pc + 4#32) := by
  subst hp
  obtain ⟨hrd, hother, hflags, -⟩ := s.putCarry_spec rd (r, c) cu
  refine ⟨_, h, hrd, hother, ?_, rfl, fun _ => rfl, rfl⟩
  rw [State.advance32, State.goto_flags, hflags, Flags.setNZC_eq_nzc]
  rfl

/-- Bit i of the 33 bits {C, a}, C standing at bit 32 (D13). -/
def wideBit (p : Word × Bool) (i : Nat) : Bool := if i = 32 then p.2 else p.1.getLsbD i

theorem eq_of_wideBit {p : Word × Bool} {f : Nat → Bool} (h : ∀ i < 33, wideBit p i = f i) : p = (ofBits f, f 32) := by
  refine Prod.ext (eq_ofBits fun i hi => ?_) (h 32 (by decide))
  rw [← h i (by omega), wideBit, if_neg (by omega)]

/-- One place to the right: C comes in at bit 31, and bit 0 goes out to C. -/
theorem wideBit_right (a : Word) (c : Bool) {i : Nat} (hi : i < 33) :
    wideBit (place 32 (BitVec.ofBool c) 31 ||| a >>> 1, a.getLsbD 0) i = wideBit (a, c) ((i + 1) % 33) := by
  rcases (by omega : i = 32 ∨ i = 31 ∨ i < 31) with rfl | rfl | hlow
  · rfl
  · simp [wideBit, getLsbD_place_ofBool, -BitVec.getLsbD_eq_getElem]
  · have hne : i ≠ 32 := by omega
    have hne31 : i ≠ 31 := by omega
    have hmod : (i + 1) % 33 = i + 1 := by omega
    have hne' : i + 1 ≠ 32 := by omega
    simp [wideBit, getLsbD_place_ofBool, -BitVec.getLsbD_eq_getElem, hne, hne31, hmod, hne', Nat.add_comm]

/-- One place to the left: C comes in at bit 0, and bit 31 goes out to C. -/
theorem wideBit_left (a : Word) (c : Bool) {i : Nat} (hi : i < 33) :
    wideBit (a <<< 1 ||| place 32 (BitVec.ofBool c) 0, a.getLsbD 31) i = wideBit (a, c) ((i + 32) % 33) := by
  rcases (by omega : i = 32 ∨ i = 0 ∨ (1 ≤ i ∧ i < 32)) with rfl | rfl | ⟨hpos, hlt⟩
  · rfl
  · simp [wideBit, getLsbD_place_ofBool, -BitVec.getLsbD_eq_getElem]
  · have hne : i ≠ 32 := by omega
    have hmod : (i + 32) % 33 = i - 1 := by omega
    have hne' : i - 1 ≠ 32 := by omega
    have hzero : i ≠ 0 := by omega
    simp [wideBit, getLsbD_place_ofBool, -BitVec.getLsbD_eq_getElem, hne, hmod, hne', hlt, hzero]

theorem wideBit_rotRightC (n : Nat) (a : Word) (c : Bool) {i : Nat} (hi : i < 33) :
    wideBit (rotRightC n a c) i = wideBit (a, c) ((i + n) % 33) := by
  induction n generalizing a c with
  | zero => rw [rotRightC, Nat.add_zero, Nat.mod_eq_of_lt hi]
  | succ n ih =>
    rw [rotRightC, ih, wideBit_right _ _ (Nat.mod_lt _ (by decide))]
    congr 1
    omega

theorem wideBit_rotLeftC {n : Nat} (hn : n ≤ 33) (a : Word) (c : Bool) {i : Nat} (hi : i < 33) :
    wideBit (rotLeftC n a c) i = wideBit (a, c) ((i + 33 - n) % 33) := by
  induction n generalizing a c with
  | zero => rw [rotLeftC, Nat.sub_zero, Nat.add_mod_right, Nat.mod_eq_of_lt hi]
  | succ n ih =>
    rw [rotLeftC, ih (by omega), wideBit_left _ _ (Nat.mod_lt _ (by decide))]
    congr 1
    omega

/-- Settles O8: n single places are one rotation of the 33 bits by n. -/
theorem carryRotatesAreThirtyThreeBits : Obligations.CarryRotatesAreThirtyThreeBits := by
  intro s rd ra rb imm5 cu n wide right left gives
  have hcount : shiftCount (s.x rb) = n := shiftCount_eq_mod _
  have hn : n < 32 := Nat.mod_lt _ (by decide)
  have hright (k : Nat) : rotRightC k (s.x ra) s.flags.c = (ofBits (right k), right k 32) :=
    eq_of_wideBit fun _ hi => wideBit_rotRightC k _ _ hi
  have hleft {k : Nat} (hk : k < 32) : rotLeftC k (s.x ra) s.flags.c = (ofBits (left k), left k 32) :=
    eq_of_wideBit fun _ hi => wideBit_rotLeftC (by omega) _ _ hi
  refine ⟨yieldsReg_of_putCarry rfl ?rorc, yieldsReg_of_putCarry rfl ?rolc, yieldsReg_of_putCarry rfl (hright _),
    yieldsReg_of_putCarry rfl (hleft imm5.isLt)⟩
  case rorc => rw [hcount, hright]
  case rolc => rw [hcount, hleft hn]

end Sys2Proof.Machine
end

section
/-!
PROOFS. Division and the accumulator transfers (spec/41_muldiv_ce.md, spec/45_compact16.md): the truncated quotient and remainder in integers, and
what an instruction that ends by writing CEL and CEH yields.
-/

namespace Sys2Proof.Machine

open Claims

/-! ## Division (R222, R223) -/

theorem yieldsCe_of_setCe_goto {i : Instr} {s : State} {lo hi next : Word} (h : exec i s = .next ((s.setCe lo hi).goto next)) :
    YieldsCe i s lo hi next :=
  ⟨_, h, fun _ => rfl, rfl⟩

/-- An instruction that only advances leaves the accumulator as it was. -/
theorem yieldsCe_of_done32 {i : Instr} {s : State} (h : exec i s = done32 s) : YieldsCe i s s.cel s.ceh (s.pc + 4#32) :=
  yieldsCe_of_setCe_goto h

theorem exec_div_of_zero {ra rb : Reg} {s : State} (h : s.x rb = 0#32) : exec (.div ra rb) s = done32 s := by
  rw [exec_div, execDiv, if_pos h]

theorem exec_divu_of_zero {ra rb : Reg} {s : State} (h : s.x rb = 0#32) : exec (.divu ra rb) s = done32 s := by
  rw [exec_divu, execDivu, if_pos h]

theorem exec_div_of_ne_zero {ra rb : Reg} {s : State} (h : s.x rb ≠ 0#32) :
    exec (.div ra rb) s = done32 (s.putQuotient ((s.x ra).toInt.tdiv (s.x rb).toInt) ((s.x ra).toInt.tmod (s.x rb).toInt)) := by
  rw [exec_div, execDiv, if_neg h]

theorem exec_divu_of_ne_zero {ra rb : Reg} {s : State} (h : s.x rb ≠ 0#32) :
    exec (.divu ra rb) s = done32 (s.setCe (s.x ra / s.x rb) (s.x ra % s.x rb)) := by
  have hword (w : Word) : BitVec.ofInt 32 (w.toNat : Int) = w := by rw [BitVec.ofInt_natCast, BitVec.ofNat_toNat, BitVec.setWidth_eq]
  rw [exec_divu, execDivu, if_neg h, State.putQuotient, ← BitVec.toNat_udiv, ← BitVec.toNat_umod, hword, hword]

/-- R222 (D14): the remainder of a division that truncates is 0 or has the dividend's sign. -/
theorem tmod_eq_zero_or_sign (n d : Int) : n.tmod d = 0 ∨ (n.tmod d < 0 ↔ n < 0) := by
  rcases lt_or_ge n 0 with hn | hn
  · have hneg : 0 ≤ (-n).tmod d := Int.tmod_nonneg d (by omega)
    rw [Int.neg_tmod] at hneg
    omega
  · have hpos : 0 ≤ n.tmod d := Int.tmod_nonneg d hn
    omega

/-- Settles O14: quotient and remainder are those of the truncated division of integers, and of the division of naturals. -/
theorem divisionTruncatesTowardZero : Obligations.DivisionTruncatesTowardZero := by
  intro s ra rb n d nx
  refine ⟨fun h => ⟨yieldsCe_of_done32 (exec_div_of_zero h), yieldsCe_of_done32 (exec_divu_of_zero h)⟩, fun h => ⟨?div, ?divu⟩⟩
  case div =>
    have hd : d ≠ 0 := fun hd => h (BitVec.eq_of_toInt_eq hd)
    have hsplit : n = n.tdiv d * d + n.tmod d := (Int.tdiv_mul_add_tmod n d).symm
    have hsmall : |n.tmod d| < |d| := by
      rw [Int.abs_eq_natAbs, Int.abs_eq_natAbs, Int.natAbs_tmod, Nat.cast_lt]
      exact Nat.mod_lt _ (Int.natAbs_pos.2 hd)
    exact ⟨n.tdiv d, n.tmod d, yieldsCe_of_setCe_goto (exec_div_of_ne_zero h), hsplit, hsmall, tmod_eq_zero_or_sign n d⟩
  case divu =>
    have hpos : 0 < (s.x rb).toNat := Nat.pos_of_ne_zero fun h0 => h (BitVec.eq_of_toNat_eq h0)
    refine ⟨_, _, yieldsCe_of_setCe_goto (exec_divu_of_ne_zero h), ?_, ?_⟩
    · rw [BitVec.toNat_udiv, BitVec.toNat_umod, Nat.div_add_mod']
    · rw [BitVec.toNat_umod]
      exact Nat.mod_lt _ hpos

/-! ## The accumulator transfers (R224, R225, R317, R318) -/

/-- The register after rD, modulo 32, as a number. -/
theorem nextReg_toNat (r : Reg) : (nextReg r).toNat = (r.toNat + 1) % 32 := BitVec.toNat_add r 1#5

theorem nextReg_eq_ofNat (r : Reg) : nextReg r = BitVec.ofNat 5 (r.toNat + 1) := by
  apply BitVec.eq_of_toNat_eq
  rw [nextReg_toNat, BitVec.toNat_ofNat]

theorem ne_nextReg (r : Reg) : r ≠ nextReg r := by
  intro h
  have hnat := congrArg BitVec.toNat h
  rw [nextReg_toNat] at hnat
  omega

theorem exec_mfce_both (rd : Reg) (s : State) :
    exec (.mfce rd 3#2) s = done32 ((s.setX rd s.cel).setX (nextReg rd) s.ceh) := rfl

/-- Settles O15: each selector moves the halves it names, and selector 3 moves two different registers. -/
theorem accumulatorTransfers : Obligations.AccumulatorTransfers := by
  intro s m rd nx
  refine ⟨yieldsFlags_of_setFlags rfl rfl, yieldsReg_of_setX rfl, yieldsReg_of_setX rfl,
    ⟨_, exec_mfce_both rd s, ?low, ?high, ?other, fun _ => rfl, rfl⟩, yieldsCe_of_done32 rfl, yieldsCe_of_setCe_goto rfl,
    yieldsCe_of_setCe_goto rfl, ?both, yieldsCe_of_setCe_goto rfl, yieldsCe_of_setCe_goto rfl, yieldsReg_of_setX_goto rfl rfl, yieldsReg_of_setX_goto rfl rfl⟩
  case low =>
    rw [State.x_advance32, State.x_setX_ne _ _ _ _ (ne_nextReg rd), State.x_setX_same]
  case high =>
    rw [State.x_advance32, ← nextReg_eq_ofNat, State.x_setX_same]
  case other =>
    intro j hj hnext
    have hne : j ≠ nextReg rd := fun h => hnext (h ▸ nextReg_toNat rd)
    rw [State.x_advance32, State.x_setX_ne _ _ _ _ hne, State.x_setX_ne _ _ _ _ hj]
  case both =>
    rw [← nextReg_eq_ofNat]
    exact yieldsCe_of_setCe_goto rfl

end Sys2Proof.Machine
end

section
/-!
PROOFS. Conditional transfers, sets and moves (spec/42_control.md, spec/45_compact16.md): the branch targets and the fall-through of a half as
numbers, and a move whose condition fails as the move of a register to itself.
-/

namespace Sys2Proof.Machine

open Claims

/-! ## Targets and fall-through as numbers (R107, R337, R338, R354) -/

/-- A signed displacement in halfwords. -/
theorem add_halfwords_eq_ofInt {n : Nat} (pc : Word) (disp : BitVec n) :
    pc + sext disp <<< 1 = BitVec.ofInt 32 (pc.toNat + 2 * disp.toInt) := by
  have hdouble : sext disp <<< 1 = BitVec.ofInt 32 (2 * disp.toInt) := by
    rw [BitVec.shiftLeft_eq_mul_twoPow, BitVec.mul_comm, BitVec.ofInt_mul]
    rfl
  rw [hdouble, add_ofInt]

/-- The mask of R337 keeps the bits from 12 up. -/
theorem jumpTarget16_eq_ofNat (pc : Word) (disp : BitVec 11) :
    jumpTarget16 pc disp = BitVec.ofNat 32 (pc.toNat / 2 ^ 12 * 2 ^ 12 + disp.toNat * 2) :=
  keepUpper_or_halfwords_eq_ofNat pc disp (by decide)

theorem next16_parallel_eq_ofNat (pc : Word) : next16 .parallel pc = BitVec.ofNat 32 (pc.toNat / 4 * 4 + 4) := by
  apply BitVec.eq_of_toNat_eq
  rw [next16_parallel_toNat, BitVec.toNat_ofNat]

/-- Settles O19: each is a branch, whose target and fall-through are the numbers of the statement. -/
theorem transfersTakeTheirCondition : Obligations.TransfersTakeTheirCondition := by
  intro s m c disp ra d11 d8 holds target page near fall
  have htarget : branchTarget s.pc disp = target := add_halfwords_eq_ofInt _ _
  have hpage : jumpTarget16 s.pc d11 = page := jumpTarget16_eq_ofNat _ _
  have hnear : branchTarget16 s.pc d8 = near := add_halfwords_eq_ofInt _ _
  have hfall : next16 m s.pc = fall := by
    cases m with
    | single => rfl
    | parallel => exact next16_parallel_eq_ofNat s.pc
  rw [← hfall]
  exact ⟨transfers_of_branch rfl htarget, transfers_of_branch rfl htarget, transfers_of_branch rfl rfl, transfers_of_branch rfl rfl,
    transfers_of_branch rfl hpage, transfers_of_branch rfl hpage, transfers_of_branch rfl hnear, transfers_of_branch rfl rfl,
    transfers_of_branch rfl rfl⟩

/-! ## Conditional set and move (R246, R247, R319) -/

theorem State.setX_x (s : State) (i : Reg) : s.setX i (s.x i) = s := by
  rw [State.setX, State.x, Vector.set_getElem_self]

/-- A move that is not made leaves rD as a move of rD to itself does. -/
theorem exec_mvCc_eq_setX (c : Cond) (rd ra : Reg) (s : State) :
    exec (.mvCc c rd ra) s = done32 (s.setX rd (if condHolds c s.flags then s.x ra else s.x rd)) := by
  rw [exec_mvCc, execMvCc]
  split
  · rfl
  · rw [State.setX_x]

/-- Settles O20: t and t! write T alone, and mv writes one register. -/
theorem conditionalSetAndMove : Obligations.ConditionalSetAndMove := fun s _ c rd ra =>
  ⟨yieldsFlags_of_setFlags rfl rfl, yieldsFlags_of_setFlags rfl rfl, yieldsReg_of_setX (exec_mvCc_eq_setX c rd ra s)⟩

end Sys2Proof.Machine
end

section
/-!
PROOFS. Loads and stores (spec/43_loadstore.md, spec/45_compact16.md): effective addresses and extensions as numbers, what an instruction that ends in
each of the four shared accesses does, and where a store lands in storage, a fallback cell's word being rewritten lane by lane (R71, R72).
-/

namespace Sys2Proof.Machine

open Claims

/-! ## Effective addresses and extensions (R260, R347 to R352) -/

theorem State.ea_eq_ofInt {n : Nat} (s : State) (ra : Reg) (imm : BitVec n) :
    s.ea ra imm = BitVec.ofInt 32 ((s.x ra).toNat + imm.toInt) := add_ofInt _ _

theorem State.spEa_eq_ofNat (s : State) (imm : BitVec 5) (sz : Size) :
    s.spEa imm sz = BitVec.ofNat 32 ((s.x 29#5).toNat + sz.bytes * imm.toNat) := by
  have hoffset : spOffset imm sz.bytes = BitVec.ofNat 32 (sz.bytes * imm.toNat) := by
    rw [spOffset, zext, BitVec.mul_comm, BitVec.ofNat_mul, BitVec.ofNat_toNat]
  rw [State.spEa, hoffset, add_ofNat]
  rfl

theorem extendLoad_zero (sz : Size) (v : Word) : extendLoad false sz v = id v := rfl

theorem extendLoad_half (v : Word) : extendLoad true .half v = BitVec.ofInt 32 (v.setWidth 16).toInt :=
  sext_low_eq_ofInt v (by decide)

theorem extendLoad_byte (v : Word) : extendLoad true .byte v = BitVec.ofInt 32 (v.setWidth 8).toInt :=
  sext_low_eq_ofInt v (by decide)

/-! ## What an instruction that ends in an access and an advance does -/

section Access

variable {i : Instr} {s : State} {rd ra : Reg} {addr addr' base base' : Word} {sz : Size} {signed : Bool} {ext : Word → Word}

theorem loads_of_load (next : Word → Word)
    (h : exec i s = .next ((s.load rd addr sz signed).goto (next (s.load rd addr sz signed).pc)))
    (haddr : addr = addr') (hext : ∀ v, extendLoad signed sz v = ext v) : Loads i s rd addr' sz ext (next s.pc) := by
  subst haddr
  obtain ⟨hrd, hother, hframe⟩ := s.load_spec rd addr sz signed
  have hpc : (s.load rd addr sz signed).pc = s.pc := s.memRead_pc addr sz
  have hmem : (s.load rd addr sz signed).mem = s.mem := s.memRead_mem addr sz
  rw [hpc] at h
  exact ⟨_, h, hrd.trans (hext _), hother, State.flags_of_load hframe _, rfl, fun a => congrArg (Memory.read · a) hmem, rfl⟩

theorem loadsAndUpdates_of_loadUpdate (next : Word → Word)
    (h : exec i s = .next ((s.loadUpdate rd ra addr base sz signed).goto (next (s.loadUpdate rd ra addr base sz signed).pc)))
    (haddr : addr = addr') (hbase : base = base') (hext : ∀ v, extendLoad signed sz v = ext v) :
    LoadsAndUpdates i s rd ra addr' base' sz ext (next s.pc) := by
  subst haddr hbase
  obtain ⟨hrd, hra, hother, hframe⟩ := s.loadUpdate_spec rd ra addr base sz signed
  have hpc : (s.loadUpdate rd ra addr base sz signed).pc = s.pc := s.memRead_pc addr sz
  have hmem : (s.loadUpdate rd ra addr base sz signed).mem = s.mem := s.memRead_mem addr sz
  rw [hpc] at h
  exact ⟨_, h, hrd.trans (hext _), hra, hother, State.flags_of_load hframe _, rfl, fun a => congrArg (Memory.read · a) hmem, rfl⟩

end Access

/-- Settles O21: the model's address and extension are the numbers of the statement. -/
theorem loadsExtendWhatMemReadGives : Obligations.LoadsExtendWhatMemReadGives := by
  intro s m rd ra imm15 imm12 imm5 e15 e12 sp nx nh sh sb
  have h15 : s.ea ra imm15 = e15 := s.ea_eq_ofInt ra imm15
  have h12 : s.ea ra imm12 = e12 := s.ea_eq_ofInt ra imm12
  have hsp (sz : Size) : s.spEa imm5 sz = sp sz.bytes := s.spEa_eq_ofNat imm5 sz
  exact ⟨loads_of_load next32 rfl h15 (extendLoad_zero _), loads_of_load next32 rfl h15 extendLoad_half,
    loads_of_load next32 rfl h15 (extendLoad_zero _), loads_of_load next32 rfl h15 extendLoad_byte,
    loads_of_load next32 rfl h15 (extendLoad_zero _),
    loads_of_load next32 rfl h12 (extendLoad_zero _), loads_of_load next32 rfl h12 extendLoad_half,
    loads_of_load next32 rfl h12 (extendLoad_zero _), loads_of_load next32 rfl h12 extendLoad_byte,
    loads_of_load next32 rfl h12 (extendLoad_zero _),
    loads_of_load (next16 m) rfl rfl (extendLoad_zero _), loads_of_load (next16 m) rfl rfl extendLoad_half,
    loads_of_load (next16 m) rfl rfl (extendLoad_zero _),
    loads_of_load (next16 m) rfl (hsp .word) (extendLoad_zero _), loads_of_load (next16 m) rfl (hsp .half) extendLoad_half,
    loads_of_load (next16 m) rfl (hsp .byte) (extendLoad_zero _)⟩

/-! ## The lanes of a fallback cell (R71) -/

theorem getLsbD_sizeMask (sz : Size) (i : Nat) : (sizeMask sz).getLsbD i = decide (i < 8 * sz.bytes) := by
  cases sz with
  | byte => exact getLsbD_byteMask i
  | half => exact getLsbD_halfMask i
  | word => exact (BitVec.getLsbD_allOnes : (BitVec.allOnes 32).getLsbD i = _)

/-- The byte of its word at which a sub-word access begins. -/
def laneByte (off : BitVec 24) (sz : Size) : Nat := off.toNat % 4 / sz.bytes * sz.bytes

theorem laneShift_eq_laneByte (off : BitVec 24) (sz : Size) : laneShift off sz = 8 * laneByte off sz := laneShift_eq off sz

theorem laneByte_add_bytes_le (off : BitVec 24) (sz : Size) : laneByte off sz + sz.bytes ≤ 4 := by
  cases sz <;> simp only [laneByte, Size.bytes] <;> omega

/-- R71: the merged word is the old one with the bytes from the lane on replaced. -/
theorem extractLsb'_mergeLane (old : Word) (off : BitVec 24) (sz : Size) (v : Word) {k : Nat} (hk : k < 4) :
    (mergeLane old off sz v).extractLsb' (8 * k) 8
      = if laneByte off sz ≤ k ∧ k < laneByte off sz + sz.bytes then v.extractLsb' (8 * (k - laneByte off sz)) 8
        else old.extractLsb' (8 * k) 8 := by
  apply BitVec.eq_of_getLsbD_eq
  intro i hi
  have hword : 8 * k + i < 32 := by omega
  simp only [mergeLane, laneShift_eq_laneByte, BitVec.getLsbD_extractLsb', BitVec.getLsbD_or, BitVec.getLsbD_and, BitVec.getLsbD_not,
    BitVec.getLsbD_shiftLeft, getLsbD_sizeMask, hi, hword, decide_true, Bool.true_and]
  split
  · next h =>
    have hge : ¬ 8 * k + i < 8 * laneByte off sz := by omega
    have hin : 8 * k + i - 8 * laneByte off sz < 8 * sz.bytes := by omega
    have hbit : 8 * k + i - 8 * laneByte off sz = 8 * (k - laneByte off sz) + i := by omega
    rw [BitVec.getLsbD_extractLsb']
    simp [hge, hbit ▸ hin, hbit, hi]
  · next h =>
    rw [BitVec.getLsbD_extractLsb']
    by_cases hlt : 8 * k + i < 8 * laneByte off sz
    · simp [hlt, hi]
    · have hout : ¬ 8 * k + i - 8 * laneByte off sz < 8 * sz.bytes := by omega
      simp [hout, hi]

/-! ## Where a store lands (R67, R68, R71, R72) -/

/-- Only a fallback cell is storage: the writer of any other word leaves memory. -/
theorem mmioWrite_mem_of_not_cell {w : MmioWord} (h : ∀ i, w ≠ .cell i) (v : Word) (s : State) : (mmioWrite w v s).mem = s.mem := by
  cases w
  case cell i => exact absurd rfl (h i)
  all_goals rfl

theorem mmioStorePlace_cell {off : BitVec 24} {i : BitVec 16} (h : mmioWord (wordIndex off) = .cell i) (sz : Size) :
    mmioStorePlace off sz = some (cellAddress i + laneByte off sz) := by
  rw [mmioStorePlace, h, laneShift_eq_laneByte, Nat.mul_div_cancel_left _ (by decide)]

theorem mmioStorePlace_of_not_cell {off : BitVec 24} (h : ∀ i, mmioWord (wordIndex off) ≠ .cell i) (sz : Size) :
    mmioStorePlace off sz = none := by
  unfold mmioStorePlace
  split
  · next i hi => exact absurd hi (h i)
  · rfl

/-- A store to a cell writes its word back with the bytes of the lane replaced. -/
theorem mmioStore_cell_eq {off : BitVec 24} {i : BitVec 16} (h : mmioWord (wordIndex off) = .cell i) (sz : Size) (v : Word) (s : State) :
    mmioStore off sz v s = s.setMem (s.mem.writeLE (cellAddress i) (mergeLane (s.mem.readLE (cellAddress i) 4) off sz v) 4) := by
  rw [mmioStore_of_pure_read (by rw [h]; rfl), h]
  rfl

/-- Byte k of a cell after a store: the store's own within its lane, and as before outside it. -/
theorem read_mmioStore_cell {off : BitVec 24} {i : BitVec 16} (h : mmioWord (wordIndex off) = .cell i) (sz : Size) (v : Word) {s : State}
    (hm : s.mem.wf) {k : Nat} (hk : k < 4) :
    (mmioStore off sz v s).mem.read (cellAddress i + k)
      = if laneByte off sz ≤ k ∧ k < laneByte off sz + sz.bytes then v.extractLsb' (8 * (k - laneByte off sz)) 8
        else s.mem.read (cellAddress i + k) := by
  rw [mmioStore_cell_eq h, State.setMem_mem, Memory.read_writeLE_inside _ _ _ _ _ hm hk, extractLsb'_mergeLane _ _ _ _ hk,
    Memory.extractLsb'_readLE_four _ _ hk]

theorem storedIn_of_storePlace_none {s t : State} {addr : Word} {sz : Size} (h : storePlace addr sz = none) (hmem : t.mem = s.mem)
    (v : Word) : StoredIn s t addr sz v :=
  ⟨fun p hp => absurd (hp.symm.trans h) (Option.some_ne_none p), fun a _ => congrArg (Memory.read · a) hmem⟩

theorem storedIn_of_storePlace {s t : State} {addr : Word} {sz : Size} {p : Nat} {v : Word} (h : storePlace addr sz = some p)
    (hin : ∀ k, k < sz.bytes → t.mem.read (p + k) = v.extractLsb' (8 * k) 8)
    (hout : ∀ a, a < p ∨ p + sz.bytes ≤ a → t.mem.read a = s.mem.read a) : StoredIn s t addr sz v :=
  ⟨fun q hq => by obtain rfl := Option.some.inj (h.symm.trans hq); exact hin, fun a ha => hout a (ha p h)⟩

theorem storedIn_backing {s : State} {addr : Word} {b : Config.Backing} (hreg : Config.regionOf (segmentOf addr) = some (.backing b))
    (hm : s.mem.wf) (sz : Size) (v : Word) : StoredIn s (s.memWrite addr sz v) addr sz v := by
  have hplace : storePlace addr sz = backingStorePlace b (offsetOf addr) sz := by rw [storePlace, hreg]
  have hmem : (s.memWrite addr sz v).mem = backingWrite b s.mem (offsetOf addr) sz v := by rw [s.memWrite_of_backing hreg]; rfl
  rw [backingWrite] at hmem
  cases h : backingStorePlace b (offsetOf addr) sz with
  | none =>
    rw [h] at hmem
    exact storedIn_of_storePlace_none (hplace.trans h) hmem v
  | some p =>
    rw [h] at hmem
    exact storedIn_of_storePlace (hplace.trans h) (fun k hk => by rw [hmem, Memory.read_writeLE_inside _ _ _ _ _ hm hk])
      fun a ha => by rw [hmem, Memory.read_writeLE_outside _ _ _ _ _ ha]

/-- A store to a cell lands in its lane; what lies beside the lane in the cell's word is written back. -/
theorem storedIn_cell {s t : State} {addr : Word} {sz : Size} {i : BitVec 16} {v : Word} (hi : mmioWord (wordIndex (offsetOf addr)) = .cell i)
    (hplace : storePlace addr sz = mmioStorePlace (offsetOf addr) sz) (ht : t = mmioStore (offsetOf addr) sz v s) (hm : s.mem.wf) :
    StoredIn s t addr sz v := by
  subst ht
  have hlane := laneByte_add_bytes_le (offsetOf addr) sz
  refine storedIn_of_storePlace (hplace.trans (mmioStorePlace_cell hi sz)) (fun k hk => ?inside) (fun a ha => ?outside)
  case inside => rw [Nat.add_assoc, read_mmioStore_cell hi sz v hm (by omega), if_pos (by omega), Nat.add_sub_cancel_left]
  case outside =>
    by_cases hin : cellAddress i ≤ a ∧ a < cellAddress i + 4
    · obtain ⟨k, rfl⟩ := Nat.exists_eq_add_of_le hin.1
      rw [read_mmioStore_cell hi sz v hm (by omega), if_neg (by omega)]
    · rw [mmioStore_cell_eq hi]
      exact Memory.read_writeLE_outside _ _ _ _ _ (by omega)

theorem storedIn_device {s t : State} {addr : Word} {sz : Size} {v : Word} (hword : ∀ i, mmioWord (wordIndex (offsetOf addr)) ≠ .cell i)
    (hplace : storePlace addr sz = mmioStorePlace (offsetOf addr) sz) (ht : t = mmioStore (offsetOf addr) sz v s) :
    StoredIn s t addr sz v := by
  obtain ⟨w, u, hstore, hmem, -⟩ := mmioStore_eq_mmioWrite (offsetOf addr) sz v s
  refine storedIn_of_storePlace_none (hplace.trans (mmioStorePlace_of_not_cell hword sz)) ?_ v
  rw [ht, hstore, mmioWrite_mem_of_not_cell hword, hmem]

theorem storedIn_mmio {s : State} {addr : Word} (hreg : Config.regionOf (segmentOf addr) = some .mmio)
    (hm : s.mem.wf) (sz : Size) (v : Word) : StoredIn s (s.memWrite addr sz v) addr sz v := by
  have hplace : storePlace addr sz = mmioStorePlace (offsetOf addr) sz := by rw [storePlace, hreg]
  have hstore := s.memWrite_of_mmio hreg sz v
  by_cases hcell : ∃ i, mmioWord (wordIndex (offsetOf addr)) = .cell i
  · obtain ⟨i, hi⟩ := hcell
    exact storedIn_cell hi hplace hstore hm
  · exact storedIn_device (not_exists.1 hcell) hplace hstore

/-- What any store leaves in memory. -/
theorem storedIn_memWrite {s : State} (hm : s.mem.wf) (addr : Word) (sz : Size) (v : Word) :
    StoredIn s (s.memWrite addr sz v) addr sz v := by
  cases h : Config.regionOf (segmentOf addr) with
  | none => exact storedIn_of_storePlace_none (by rw [storePlace, h]) (by rw [s.memWrite_of_unmapped h]; rfl) v
  | some r =>
    cases r with
    | backing b => exact storedIn_backing h hm sz v
    | mmio => exact storedIn_mmio h hm sz v

/-! ## What an instruction that ends in a store and an advance does -/

theorem stores_of_store {i : Instr} {s : State} {rd : Reg} {addr addr' : Word} {sz : Size} (next : Word → Word)
    (h : exec i s = .next ((s.store rd addr sz).goto (next (s.store rd addr sz).pc))) (haddr : addr = addr') :
    Stores i s addr' sz (s.x rd) (next s.pc) := by
  subst haddr
  rw [s.store_spec, s.memWrite_pc] at h
  exact ⟨_, h, fun hm => storedIn_memWrite hm addr sz _, fun j => s.x_memWrite addr sz _ j, s.memWrite_flags addr sz _, rfl⟩

theorem storesAndUpdates_of_storeUpdate {i : Instr} {s : State} {rd ra : Reg} {addr addr' : Word} {sz : Size} (next : Word → Word)
    (h : exec i s = .next ((s.storeUpdate rd ra addr sz).goto (next (s.storeUpdate rd ra addr sz).pc))) (haddr : addr = addr') :
    StoresAndUpdates i s ra addr' addr' sz (s.x rd) (next s.pc) := by
  subst haddr
  obtain ⟨hra, hother, -, -⟩ := s.storeUpdate_spec rd ra addr sz
  have hpc : (s.storeUpdate rd ra addr sz).pc = s.pc := s.memWrite_pc addr sz _
  rw [hpc] at h
  exact ⟨_, h, fun hm => storedIn_memWrite hm addr sz _, hra, hother, s.memWrite_flags addr sz _, rfl⟩

/-- Settles O23: the model's address is the number of the statement, and the store lands at its place. -/
theorem storesWriteTheirPlaceAlone : Obligations.StoresWriteTheirPlaceAlone := by
  intro s m rd ra imm15 imm12 imm5 e15 e12 sp v nx nh
  have h15 : s.ea ra imm15 = e15 := s.ea_eq_ofInt ra imm15
  have h12 : s.ea ra imm12 = e12 := s.ea_eq_ofInt ra imm12
  have hsp (sz : Size) : s.spEa imm5 sz = sp sz.bytes := s.spEa_eq_ofNat imm5 sz
  exact ⟨stores_of_store next32 rfl h15, stores_of_store next32 rfl h15, stores_of_store next32 rfl h15,
    stores_of_store next32 rfl h12, stores_of_store next32 rfl h12, stores_of_store next32 rfl h12,
    stores_of_store (next16 m) rfl rfl, stores_of_store (next16 m) rfl rfl, stores_of_store (next16 m) rfl rfl,
    stores_of_store (next16 m) rfl (hsp .word), stores_of_store (next16 m) rfl (hsp .half), stores_of_store (next16 m) rfl (hsp .byte)⟩

/-! ## Write-back (R269 to R276, R329, R333) -/

/-- `push!` writes its base before it stores (R333), to the same end as a store with write-back. -/
theorem exec_push16_eq_storeUpdate (m : SlotMode) (rd ra : Reg) (s : State) :
    exec (.push16 m rd ra) s = done16 m (s.storeUpdate rd ra (s.x ra - 4#32) .word) := by
  rw [exec_push16, execPush16, State.setX_memWrite]
  rfl

/-- Settles O22: each ends in a load or a store that also writes its base. -/
theorem updatingAccessesWriteTheBase : Obligations.UpdatingAccessesWriteTheBase := by
  intro s m rd ra imm12 ea nx sh sb
  have hea : s.ea ra imm12 = ea := s.ea_eq_ofInt ra imm12
  exact ⟨loadsAndUpdates_of_loadUpdate next32 rfl hea hea (extendLoad_zero _),
    loadsAndUpdates_of_loadUpdate next32 rfl hea hea extendLoad_half,
    loadsAndUpdates_of_loadUpdate next32 rfl hea hea (extendLoad_zero _),
    loadsAndUpdates_of_loadUpdate next32 rfl hea hea extendLoad_byte,
    loadsAndUpdates_of_loadUpdate next32 rfl hea hea (extendLoad_zero _),
    loadsAndUpdates_of_loadUpdate (next16 m) rfl rfl rfl (extendLoad_zero _),
    storesAndUpdates_of_storeUpdate next32 rfl hea, storesAndUpdates_of_storeUpdate next32 rfl hea,
    storesAndUpdates_of_storeUpdate next32 rfl hea,
    storesAndUpdates_of_storeUpdate (next16 m) (exec_push16_eq_storeUpdate m rd ra s) rfl⟩

end Sys2Proof.Machine
end

section
/-!
PROOFS. The 16-bit register instructions (spec/45_compact16.md): their results as numbers, and the constant of `addei!`.
-/

namespace Sys2Proof.Machine

open Claims

/-! ## Results as numbers (R320 to R322, R326, R339, R343 to R346, R353) -/

theorem sub_eq_ofInt (a b : Word) : a - b = BitVec.ofInt 32 (a.toNat - b.toNat) := by
  rw [BitVec.sub_eq_add_neg, Int.sub_eq_add_neg, ← add_ofInt, BitVec.ofInt_neg, BitVec.ofInt_natCast, BitVec.ofNat_toNat, BitVec.setWidth_eq]

theorem zero_sub_eq_ofInt (a : Word) : 0#32 - a = BitVec.ofInt 32 (-(a.toNat : Int)) := by
  rw [sub_eq_ofInt, BitVec.toNat_zero, Nat.cast_zero, Int.zero_sub]

theorem bitMask_eq_ofNat (bit : BitVec 5) : bitMask bit = BitVec.ofNat 32 (2 ^ bit.toNat) := one_shiftLeft_eq_ofNat bit.toNat

theorem addeiConst_eq_ofInt (imm : BitVec 5) : addeiConst imm = BitVec.ofInt 32 (2 ^ (imm.toNat % 16)) := by
  rw [addeiConst, one_shiftLeft_eq_ofNat, field_toNat, ← BitVec.ofInt_natCast, Nat.pow_zero, Nat.div_one]
  norm_cast

/-- Bit 4 of the immediate of `addei!` is its sign (R339). -/
theorem addeiSign_eq_decide (imm : BitVec 5) : imm.getLsbD 4 = decide (16 ≤ imm.toNat) := imm.msb_eq_decide

theorem addei_eq_ofInt (d : Word) (imm : BitVec 5) :
    (if imm.getLsbD 4 then d - addeiConst imm else d + addeiConst imm)
      = BitVec.ofInt 32 (d.toNat + (if 16 ≤ imm.toNat then -2 ^ (imm.toNat % 16) else 2 ^ (imm.toNat % 16))) := by
  rw [addeiSign_eq_decide, addeiConst_eq_ofInt]
  by_cases h : 16 ≤ imm.toNat
  · rw [if_pos (decide_eq_true h), if_pos h, BitVec.sub_eq_add_neg, ← BitVec.ofInt_neg, add_ofInt]
  · rw [if_neg (by rwa [decide_eq_true_iff]), if_neg h, add_ofInt]

/-- Settles O60: each ends in one register write, or none, and the advance of a half. -/
theorem compactRegisterResults : Obligations.CompactRegisterResults := by
  intro s m rd ra imm5 imm8 a d one k gives
  have hone : bitMask imm5 = one := bitMask_eq_ofNat imm5
  refine ⟨yieldsFlags_of_setFlags rfl rfl, yieldsReg_of_setX_goto rfl rfl, yieldsReg_of_setX_goto rfl rfl, yieldsReg_of_setX_goto rfl rfl,
    yieldsReg_of_setX_goto rfl (BitVec.add_def ..), yieldsReg_of_setX_goto rfl (sub_eq_ofInt _ _),
    yieldsReg_of_setX_goto rfl (zero_sub_eq_ofInt _), yieldsReg_of_setX_goto rfl rfl, yieldsReg_of_setX_goto rfl rfl,
    yieldsReg_of_setX_goto rfl BitVec.xor_allOnes.symm, yieldsReg_of_setX_goto rfl rfl,
    yieldsReg_of_setX_goto rfl (BitVec.ofNat_toNat 32 imm8).symm, yieldsReg_of_setX_goto rfl (addei_eq_ofInt _ _),
    yieldsReg_of_setX_goto rfl (shiftLeft_eq_ofNat _ _), yieldsReg_of_setX_goto rfl (shiftRight_eq_ofNat _ _),
    yieldsReg_of_setX_goto rfl ?bitclr, yieldsReg_of_setX_goto rfl ?bitset, yieldsReg_of_setX_goto rfl ?bittgl⟩
  case bitclr | bitset | bittgl => rw [hone]

end Sys2Proof.Machine
end
